-- ==== Sys2Proof/Word.lean ====
section
/-! DEFINITION. The word types of the block: the 12-bit transaction word of 30_encoding.md R70 and the byte. -/

namespace Sys2Proof

/-- One transaction word `TW[11:0]` (30_encoding.md R70). -/
abbrev Word := BitVec 12

/-- A received byte, a sensor sample or a frame-buffer byte (30_encoding.md R72, R73; 20_memory.md R53). -/
abbrev Byte := BitVec 8

end Sys2Proof
end

