-- ==== Sys2Proof/Config.lean ====
section
/-! DEFINITION. What is fixed when the block is built (00_scope.md R7, 10_state.md R42): the parameters, their legal
ranges, and the shape of the primitive ROM. The default values stand in Machine/Parameters.lean. -/

namespace Sys2Proof

/-- What one ROM row assigns to one drive channel: power 0 to 100 and direction, `true` for reverse
(40_actuation.md R104, 30_encoding.md R88). -/
structure Drive where
  power : BitVec 7
  dir : Bool
  deriving DecidableEq, Repr

/-- The MULT column of 40_actuation.md R104: one dwell unit, or `ADJ_MULT` units (R105). -/
inductive DwellMult where
  | unit
  | adjusted
  deriving DecidableEq, Repr

/-- One row of the primitive ROM (40_actuation.md R104; 20_memory.md R50: two pairs and a dwell multiplier). -/
structure RomRow where
  left : Drive
  right : Drive
  mult : DwellMult
  deriving DecidableEq, Repr

/-- The eight rows of the primitive ROM, PRIM codes 0x1 to 0x8 (20_memory.md R50, R54). -/
structure Rom where
  spinLeft : RomRow
  spinRight : RomRow
  gentleRightFwd : RomRow
  gentleLeftFwd : RomRow
  gentleRightBwd : RomRow
  gentleLeftBwd : RomRow
  straightFwd : RomRow
  straightBwd : RomRow
  deriving DecidableEq, Repr

/-- Both powers of a row are in 0 to 100 (00_scope.md R7, row `ROM`). -/
def RomRow.legal (r : RomRow) : Bool :=
  decide (r.left.power.toNat ≤ 100) && decide (r.right.power.toNat ≤ 100)

/-- Every row of the ROM is legal. -/
def Rom.legal (m : Rom) : Bool :=
  m.spinLeft.legal && m.spinRight.legal && m.gentleRightFwd.legal && m.gentleLeftFwd.legal &&
    m.gentleRightBwd.legal && m.gentleLeftBwd.legal && m.straightFwd.legal && m.straightBwd.legal

/-- The implementation parameters of 00_scope.md R7. `u`, `pwmL`, `pwmR` and `hbTicks` are OPEN there. -/
structure Params where
  /-- `CAP`, the path-log capacity in entries. -/
  cap : Nat
  /-- `U`, ticks in one dwell unit (OPEN). -/
  u : Nat
  /-- `ADJ_MULT`, the multiplier of the extended dwell. -/
  adjMult : Nat
  /-- `CENTER`, the beacon-centered threshold. -/
  center : Byte
  /-- `LOST1`, the value of `cap1` that signals a lost signal. -/
  lost1 : Byte
  /-- `LOST2_MAX`, the largest value of `cap2` that signals a lost signal. -/
  lost2Max : Byte
  /-- `ROM`, the primitive table. -/
  rom : Rom
  /-- `PWM_L`, the PWM period of the left channel (OPEN). -/
  pwmL : Nat
  /-- `PWM_R`, the PWM period of the right channel (OPEN). -/
  pwmR : Nat
  /-- `FCAP`, the frame buffer capacity in bytes. -/
  fcap : Nat
  /-- `HB_TICKS`, ticks between heartbeat toggles (OPEN). -/
  hbTicks : Nat
  /-- `HB_PATTERN`, the pattern shown while the heartbeat is on. -/
  hbPattern : BitVec 4
  deriving DecidableEq, Repr

/-- `n` is in `lo` to `hi`. -/
def inRange (lo hi n : Nat) : Bool := decide (lo ≤ n) && decide (n ≤ hi)

/-- The column "legal values" of 00_scope.md R7. The 8-bit thresholds need no check. -/
def Params.legal (p : Params) : Bool :=
  inRange 1 65535 p.cap && inRange 1 65535 p.u && inRange 1 15 p.adjMult && p.rom.legal &&
    inRange 1 65535 p.pwmL && inRange 1 65535 p.pwmR && inRange 12 255 p.fcap &&
    inRange 1 65535 p.hbTicks && decide (p.hbPattern ≠ 0)

/-- A configuration the block can be built with: parameters and the fact that they are legal. -/
structure Config extends Params where
  isLegal : toParams.legal = true
  deriving DecidableEq, Repr

end Sys2Proof
end

