-- ==== Sys2Proof/Syntax.lean ====
section
/-! DEFINITION. The instruction set as syntax: one constructor of `Instr` per row of spec/opcode_table.json, and the
fixed sets of names the rows and the state codes use. -/

namespace Sys2Proof

/-- The sensor register a CAP selects: `CH` = 0 is `cap1`, `CH` = 1 is `cap2` (30_encoding.md R72). -/
inductive Receiver where
  | first
  | second
  deriving DecidableEq, Repr

/-- The path-log record codes (30_encoding.md R82). -/
inductive Tag where
  | spinSearch
  | straightForward
  | adjustRight
  | adjustLeft
  deriving DecidableEq, Repr

/-- The primitives that have a ROM row (30_encoding.md R80, codes 0x1 to 0x8). -/
inductive RomPrim where
  | spinLeft
  | spinRight
  | gentleRightFwd
  | gentleLeftFwd
  | gentleRightBwd
  | gentleLeftBwd
  | straightFwd
  | straightBwd
  deriving DecidableEq, Repr

/-- The values of `phase` (30_encoding.md R83). -/
inductive Phase where
  | searching
  | tracking
  | arrived
  | returning
  | displaying
  | halted
  deriving DecidableEq, Repr

/-- The values of `sub` (30_encoding.md R84). -/
inductive Sub where
  | decide
  | dwell
  | ramp
  deriving DecidableEq, Repr

/-- The values of `fa_state` (30_encoding.md R85). -/
inductive FaState where
  | idle
  | collecting
  | accepted
  deriving DecidableEq, Repr

/-- The fatal causes (60_exceptions.md R231). -/
inductive FatalCode where
  | pathlogOverflow
  | frameOverflow
  deriving DecidableEq, Repr

/-- The micro-operations a TICK selects (30_encoding.md R76; rows of format TICKSEL). -/
inductive MicroOp where
  | searchSpin
  | searchDwell
  | searchCheck
  | trackDecide
  | dwellTickTracking
  | rampTickTracking
  | rampTickArrived
  | returnStep
  | dwellTickReturning
  | rampTickReturning
  | displayTick
  | haltTick
  deriving DecidableEq, Repr

/-- The assembler steps an RXB selects (44_frame.md R200; rows of format RXBSEL). -/
inductive RxOp where
  | start
  | ignoreIdle
  | endEvaluate
  | collect
  | overflow
  | ignoreAccepted
  deriving DecidableEq, Repr

/-- One constructor per row of spec/opcode_table.json, in the table's order. The first four are the transaction words
a program is made of; the others are the rows of the formats TICKSEL, RXBSEL, PRIM, TAG and PSEUDO. -/
inductive Instr where
  /-- CAP: a sensor capture (41_sensor_capture.md R130). -/
  | cap (r : Receiver) (v : Byte)
  /-- RXB: a received byte (44_frame.md R200). -/
  | rxb (b : Byte)
  /-- TICK: a timebase tick (30_encoding.md R74). -/
  | tick
  /-- RST: reset (70_reset_and_hazards.md R260). -/
  | rst
  /-- SEARCH_SPIN (42_navigation.md R142). -/
  | searchSpin
  /-- SEARCH_DWELL (42_navigation.md R143). -/
  | searchDwell
  /-- SEARCH_CHECK (42_navigation.md R144). -/
  | searchCheck
  /-- TRACK_DECIDE (42_navigation.md R145). -/
  | trackDecide
  /-- DWELL_TICK in TRACKING (42_navigation.md R143). -/
  | dwellTickTracking
  /-- RAMP_TICK in TRACKING (40_actuation.md R107). -/
  | rampTickTracking
  /-- RAMP_TICK in ARRIVED (40_actuation.md R107). -/
  | rampTickArrived
  /-- RETURN_STEP (42_navigation.md R153). -/
  | returnStep
  /-- DWELL_TICK in RETURNING (42_navigation.md R143). -/
  | dwellTickReturning
  /-- RAMP_TICK in RETURNING (40_actuation.md R107). -/
  | rampTickReturning
  /-- DISPLAY_TICK (42_navigation.md R155). -/
  | displayTick
  /-- HALT_TICK (42_navigation.md R156). -/
  | haltTick
  /-- START: an RXB of 0x02 in IDLE (44_frame.md R201). -/
  | rxStart
  /-- An RXB of another byte in IDLE (44_frame.md R202). -/
  | rxIgnoreIdle (b : Byte)
  /-- An RXB of 0x03 in COLLECTING (44_frame.md R203, R207). -/
  | rxEndEvaluate
  /-- COLLECT (44_frame.md R204). -/
  | rxCollect (b : Byte)
  /-- Frame overflow (44_frame.md R205). -/
  | rxOverflow (b : Byte)
  /-- An RXB in ACCEPTED (44_frame.md R206). -/
  | rxIgnoreAccepted (b : Byte)
  /-- STOP (40_actuation.md R118). -/
  | stop
  /-- SPIN_LEFT (40_actuation.md R110). -/
  | spinLeft
  /-- SPIN_RIGHT (40_actuation.md R111). -/
  | spinRight
  /-- GENTLE_RIGHT_FWD (40_actuation.md R112). -/
  | gentleRightFwd
  /-- GENTLE_LEFT_FWD (40_actuation.md R113). -/
  | gentleLeftFwd
  /-- GENTLE_RIGHT_BWD (40_actuation.md R114). -/
  | gentleRightBwd
  /-- GENTLE_LEFT_BWD (40_actuation.md R115). -/
  | gentleLeftBwd
  /-- STRAIGHT_FWD (40_actuation.md R116). -/
  | straightFwd
  /-- STRAIGHT_BWD (40_actuation.md R117). -/
  | straightBwd
  /-- HALT (40_actuation.md R119). -/
  | halt
  /-- The record SpinSearch (30_encoding.md R82). -/
  | tagSpinSearch
  /-- The record StraightForward (30_encoding.md R82). -/
  | tagStraightForward
  /-- The record AdjustRight (30_encoding.md R82). -/
  | tagAdjustRight
  /-- The record AdjustLeft (30_encoding.md R82). -/
  | tagAdjustLeft
  /-- `CAPS a, b` (30_encoding.md R90). -/
  | caps (a b : Byte)
  /-- `TICKS n` (30_encoding.md R90). -/
  | ticks (n : Nat)
  /-- `RXS "s"` (30_encoding.md R90). -/
  | rxs (s : List Byte)
  /-- `FRAME "s"` (30_encoding.md R90). -/
  | frame (s : List Byte)
  deriving DecidableEq, Repr

end Sys2Proof
end

