-- ==== Sys2Proof/WellFormed.lean ====
section
/-! DEFINITION. Which instructions are well formed: the constraints of 30_encoding.md R89 and R90 on the
pseudo-instructions, and the operand constraints of the RXBSEL rows (44_frame.md R202, R204, R205). -/

namespace Sys2Proof

/-- The start marker STX (30_encoding.md R86). -/
def stx : Byte := 0x02

/-- The end marker ETX (30_encoding.md R86). -/
def etx : Byte := 0x03

/-- `b` is an ASCII character (30_encoding.md R89, R11: `'c'` is the ASCII code of a character). -/
def isAscii (b : Byte) : Bool := decide (b.toNat < 128)

/-- The checks an instruction meets before it is one. A field of fixed width needs no check. -/
def Instr.wellFormed : Instr → Bool
  | .cap _ _ => true
  | .rxb _ => true
  | .tick => true
  | .rst => true
  | .searchSpin => true
  | .searchDwell => true
  | .searchCheck => true
  | .trackDecide => true
  | .dwellTickTracking => true
  | .rampTickTracking => true
  | .rampTickArrived => true
  | .returnStep => true
  | .dwellTickReturning => true
  | .rampTickReturning => true
  | .displayTick => true
  | .haltTick => true
  | .rxStart => true
  | .rxIgnoreIdle b => decide (b ≠ stx)
  | .rxEndEvaluate => true
  | .rxCollect b => decide (b ≠ etx)
  | .rxOverflow b => decide (b ≠ etx)
  | .rxIgnoreAccepted _ => true
  | .stop => true
  | .spinLeft => true
  | .spinRight => true
  | .gentleRightFwd => true
  | .gentleLeftFwd => true
  | .gentleRightBwd => true
  | .gentleLeftBwd => true
  | .straightFwd => true
  | .straightBwd => true
  | .halt => true
  | .tagSpinSearch => true
  | .tagStraightForward => true
  | .tagAdjustRight => true
  | .tagAdjustLeft => true
  | .caps _ _ => true
  | .ticks n => decide (1 ≤ n)
  | .rxs s => s.all isAscii
  | .frame s => s.all isAscii

end Sys2Proof
end

