-- ==== Sys2Proof/Decode.lean ====
section
/-! DEFINITION. The encodings of 30_encoding.md: the codes of the state and output fields, the decoder of every format
of the opcode table, total on every code and refusing reserved codes by name, and after it the encoder. -/

namespace Sys2Proof

/-! ## The codes of state and output fields -/

/-- `phase[2:0]` (30_encoding.md R83). -/
def Phase.code : Phase → BitVec 3
  | .searching => 0b000
  | .tracking => 0b001
  | .arrived => 0b010
  | .returning => 0b011
  | .displaying => 0b100
  | .halted => 0b101

/-- `sub[1:0]` (30_encoding.md R84). -/
def Sub.code : Sub → BitVec 2
  | .decide => 0b00
  | .dwell => 0b01
  | .ramp => 0b10

/-- `fa_state[1:0]` (30_encoding.md R85). -/
def FaState.code : FaState → BitVec 2
  | .idle => 0b00
  | .collecting => 0b01
  | .accepted => 0b10

/-- `fatal_code[1:0]` of a fatal cause (30_encoding.md R87, 60_exceptions.md R231). -/
def FatalCode.code : FatalCode → BitVec 2
  | .pathlogOverflow => 1
  | .frameOverflow => 2

/-- `TAG[1:0]` (30_encoding.md R82). -/
def Tag.code : Tag → BitVec 2
  | .spinSearch => 0b00
  | .straightForward => 0b01
  | .adjustRight => 0b10
  | .adjustLeft => 0b11

/-- The record a 2-bit entry holds: all four codes are used (30_encoding.md R82). -/
def Tag.ofCode (t : BitVec 2) : Tag :=
  if t = 0b00 then .spinSearch
  else if t = 0b01 then .straightForward
  else if t = 0b10 then .adjustRight
  else .adjustLeft

/-- `PRIM[3:0]` of a primitive with a ROM row (30_encoding.md R80). -/
def RomPrim.code : RomPrim → BitVec 4
  | .spinLeft => 0x1
  | .spinRight => 0x2
  | .gentleRightFwd => 0x3
  | .gentleLeftFwd => 0x4
  | .gentleRightBwd => 0x5
  | .gentleLeftBwd => 0x6
  | .straightFwd => 0x7
  | .straightBwd => 0x8

/-- PRIM code of STOP (30_encoding.md R80). -/
def primStop : BitVec 4 := 0x0

/-- PRIM code of HALT (30_encoding.md R80). -/
def primHalt : BitVec 4 := 0xF

/-- `CH`, the bit that selects the sensor register (30_encoding.md R72). -/
def Receiver.bit : Receiver → BitVec 1
  | .first => 0
  | .second => 1

/-- The receiver that `CH` selects (30_encoding.md R72). -/
def Receiver.ofBit (ch : BitVec 1) : Receiver :=
  if ch = 0 then .first else .second

/-! ## Rows as instructions -/

/-- The row of a micro-operation. -/
def MicroOp.instr : MicroOp → Instr
  | .searchSpin => .searchSpin
  | .searchDwell => .searchDwell
  | .searchCheck => .searchCheck
  | .trackDecide => .trackDecide
  | .dwellTickTracking => .dwellTickTracking
  | .rampTickTracking => .rampTickTracking
  | .rampTickArrived => .rampTickArrived
  | .returnStep => .returnStep
  | .dwellTickReturning => .dwellTickReturning
  | .rampTickReturning => .rampTickReturning
  | .displayTick => .displayTick
  | .haltTick => .haltTick

/-- The row of an assembler step, with the received byte. -/
def RxOp.instr (op : RxOp) (b : Byte) : Instr :=
  match op with
  | .start => .rxStart
  | .ignoreIdle => .rxIgnoreIdle b
  | .endEvaluate => .rxEndEvaluate
  | .collect => .rxCollect b
  | .overflow => .rxOverflow b
  | .ignoreAccepted => .rxIgnoreAccepted b

/-- The row of a primitive with a ROM row. -/
def RomPrim.instr : RomPrim → Instr
  | .spinLeft => .spinLeft
  | .spinRight => .spinRight
  | .gentleRightFwd => .gentleRightFwd
  | .gentleLeftFwd => .gentleLeftFwd
  | .gentleRightBwd => .gentleRightBwd
  | .gentleLeftBwd => .gentleLeftBwd
  | .straightFwd => .straightFwd
  | .straightBwd => .straightBwd

/-- The row of a record. -/
def Tag.instr : Tag → Instr
  | .spinSearch => .tagSpinSearch
  | .straightForward => .tagStraightForward
  | .adjustRight => .tagAdjustRight
  | .adjustLeft => .tagAdjustLeft

/-! ## The decoders -/

/-- Why a code is refused. -/
inductive DecodeError where
  /-- A transaction word that matches no row (30_encoding.md R77, `ReservedWord`). -/
  | reservedWord (w : Word)
  /-- A state vector that selects no micro-operation (30_encoding.md R78, `ReservedState`). -/
  | reservedState (v : BitVec 5)
  /-- `fa_state` = 11 (30_encoding.md R85). -/
  | reservedFaState
  /-- A PRIM code in 0x9 to 0xE (30_encoding.md R81). -/
  | reservedPrim (c : BitVec 4)
  deriving DecidableEq, Repr

/-- One row of the TW format: a word selects it when `(TW & mask) == pattern` (30_encoding.md R71). -/
structure TwRow where
  pattern : Word
  mask : Word
  deriving DecidableEq, Repr

/-- The word selects the row. -/
def TwRow.selects (r : TwRow) (w : Word) : Bool := decide (w &&& r.mask = r.pattern)

/-- Row CAP of 30_encoding.md R71. -/
def twCap : TwRow := ⟨0x000, 0xE00⟩
/-- Row RXB of 30_encoding.md R71. -/
def twRxb : TwRow := ⟨0x400, 0xF00⟩
/-- Row TICK of 30_encoding.md R71. -/
def twTick : TwRow := ⟨0x800, 0xFFF⟩
/-- Row RST of 30_encoding.md R71. -/
def twRst : TwRow := ⟨0xC00, 0xFFF⟩

/-- The transaction a word is, or `ReservedWord` (30_encoding.md R71, R77). -/
def decodeWord (w : Word) : Except DecodeError Instr :=
  if twCap.selects w then .ok (.cap (Receiver.ofBit (w.extractLsb' 8 1)) (w.extractLsb' 0 8))
  else if twRxb.selects w then .ok (.rxb (w.extractLsb' 0 8))
  else if twTick.selects w then .ok .tick
  else if twRst.selects w then .ok .rst
  else .error (.reservedWord w)

/-- The micro-operation that the state vector `S = phase ++ sub` selects (30_encoding.md R76); none for the reserved
states of R78. `last` says that `dwell_cnt` is 1 before the tick: the last DWELL_TICK of a Searching dwell is
SEARCH_CHECK (42_navigation.md R144). -/
def tickSel (v : BitVec 5) (last : Bool) : Option MicroOp :=
  if v = 0b00000 then some .searchSpin
  else if v = 0b00001 then (if last then some .searchCheck else some .searchDwell)
  else if v = 0b00100 then some .trackDecide
  else if v = 0b00101 then some .dwellTickTracking
  else if v = 0b00110 then some .rampTickTracking
  else if v = 0b01010 then some .rampTickArrived
  else if v = 0b01100 then some .returnStep
  else if v = 0b01101 then some .dwellTickReturning
  else if v = 0b01110 then some .rampTickReturning
  else if v = 0b10000 then some .displayTick
  else if v = 0b10100 then some .haltTick
  else none

/-- The assembler step that `fa_state` and the byte select (44_frame.md R200); none for the reserved `fa_state`.
`full` says that the buffer has no room: not `flen < FCAP` (R204, R205). -/
def rxSel (fa : BitVec 2) (b : Byte) (full : Bool) : Option RxOp :=
  if fa = FaState.idle.code then (if b = stx then some .start else some .ignoreIdle)
  else if fa = FaState.collecting.code then
    (if b = etx then some .endEvaluate else if full then some .overflow else some .collect)
  else if fa = FaState.accepted.code then some .ignoreAccepted
  else none

/-- The primitive a PRIM code names (30_encoding.md R80); none for the reserved codes of R81. -/
def decodePrim (c : BitVec 4) : Option Instr :=
  if c = primStop then some .stop
  else if c = 0x1 then some .spinLeft
  else if c = 0x2 then some .spinRight
  else if c = 0x3 then some .gentleRightFwd
  else if c = 0x4 then some .gentleLeftFwd
  else if c = 0x5 then some .gentleRightBwd
  else if c = 0x6 then some .gentleLeftBwd
  else if c = 0x7 then some .straightFwd
  else if c = 0x8 then some .straightBwd
  else if c = primHalt then some .halt
  else none

/-- A code of one of the formats of spec/opcode_table.json. The rows SEARCH_DWELL and SEARCH_CHECK share one state
vector and the rows RX_COLLECT and RX_OVERFLOW one pattern; what the table's note adds to tell them apart stands
beside the bits. -/
inductive Code where
  | tw (w : Word)
  | tickSel (v : BitVec 5) (last : Bool)
  | rxbSel (v : BitVec 10) (full : Bool)
  | prim (c : BitVec 4)
  | tag (t : BitVec 2)
  deriving DecidableEq, Repr

/-- The instruction one code is. -/
def decodeCode : Code → Except DecodeError Instr
  | .tw w => decodeWord w
  | .tickSel v last =>
    match Sys2Proof.tickSel v last with
    | some m => .ok m.instr
    | none => .error (.reservedState v)
  | .rxbSel v full =>
    match rxSel (v.extractLsb' 8 2) (v.extractLsb' 0 8) full with
    | some op => .ok (op.instr (v.extractLsb' 0 8))
    | none => .error .reservedFaState
  | .prim c =>
    match decodePrim c with
    | some i => .ok i
    | none => .error (.reservedPrim c)
  | .tag t => .ok (Tag.ofCode t).instr

/-- The instructions a list of codes is, refused at the first code that is reserved. -/
def decode : List Code → Except DecodeError (List Instr)
  | [] => .ok []
  | c :: rest =>
    match decodeCode c with
    | .error e => .error e
    | .ok i =>
      match decode rest with
      | .error e => .error e
      | .ok is => .ok (i :: is)

/-! ## The encoder -/

/-- The word of `CAP`: kind 00, a reserved 0, `CH`, `V` (30_encoding.md R71, R72). -/
def capWord (r : Receiver) (v : Byte) : Word := 0b00#2 ++ 0b0#1 ++ r.bit ++ v

/-- The word of `RXB`: kind 01, two reserved 0 bits, `B` (30_encoding.md R71, R73). -/
def rxbWord (b : Byte) : Word := 0b01#2 ++ 0b00#2 ++ b

/-- The word of `TICK` (30_encoding.md R71). -/
def tickWord : Word := 0x800

/-- The word of `RST` (30_encoding.md R71). -/
def rstWord : Word := 0xC00

/-- The bits of an RXBSEL row: `fa_state` and the byte. -/
def rxBits (fa : FaState) (b : Byte) : BitVec 10 := fa.code ++ b

/-- The codes of an instruction: one code of its own format, and for a pseudo-instruction the transaction words of its
expansion (30_encoding.md R90). -/
def encode : Instr → List Code
  | .cap r v => [.tw (capWord r v)]
  | .rxb b => [.tw (rxbWord b)]
  | .tick => [.tw tickWord]
  | .rst => [.tw rstWord]
  | .searchSpin => [.tickSel 0b00000 false]
  | .searchDwell => [.tickSel 0b00001 false]
  | .searchCheck => [.tickSel 0b00001 true]
  | .trackDecide => [.tickSel 0b00100 false]
  | .dwellTickTracking => [.tickSel 0b00101 false]
  | .rampTickTracking => [.tickSel 0b00110 false]
  | .rampTickArrived => [.tickSel 0b01010 false]
  | .returnStep => [.tickSel 0b01100 false]
  | .dwellTickReturning => [.tickSel 0b01101 false]
  | .rampTickReturning => [.tickSel 0b01110 false]
  | .displayTick => [.tickSel 0b10000 false]
  | .haltTick => [.tickSel 0b10100 false]
  | .rxStart => [.rxbSel (rxBits .idle stx) false]
  | .rxIgnoreIdle b => [.rxbSel (rxBits .idle b) false]
  | .rxEndEvaluate => [.rxbSel (rxBits .collecting etx) false]
  | .rxCollect b => [.rxbSel (rxBits .collecting b) false]
  | .rxOverflow b => [.rxbSel (rxBits .collecting b) true]
  | .rxIgnoreAccepted b => [.rxbSel (rxBits .accepted b) false]
  | .stop => [.prim primStop]
  | .spinLeft => [.prim RomPrim.spinLeft.code]
  | .spinRight => [.prim RomPrim.spinRight.code]
  | .gentleRightFwd => [.prim RomPrim.gentleRightFwd.code]
  | .gentleLeftFwd => [.prim RomPrim.gentleLeftFwd.code]
  | .gentleRightBwd => [.prim RomPrim.gentleRightBwd.code]
  | .gentleLeftBwd => [.prim RomPrim.gentleLeftBwd.code]
  | .straightFwd => [.prim RomPrim.straightFwd.code]
  | .straightBwd => [.prim RomPrim.straightBwd.code]
  | .halt => [.prim primHalt]
  | .tagSpinSearch => [.tag Tag.spinSearch.code]
  | .tagStraightForward => [.tag Tag.straightForward.code]
  | .tagAdjustRight => [.tag Tag.adjustRight.code]
  | .tagAdjustLeft => [.tag Tag.adjustLeft.code]
  | .caps a b => [.tw (capWord .first a), .tw (capWord .second b)]
  | .ticks n => List.replicate n (.tw tickWord)
  | .rxs s => s.map fun b => .tw (rxbWord b)
  | .frame s => .tw (rxbWord stx) :: (s.map fun b => .tw (rxbWord b)) ++ [.tw (rxbWord etx)]

/-- The core instructions an instruction stands for: itself, and for a pseudo-instruction the transactions of its
expansion (30_encoding.md R90). -/
def expand : Instr → List Instr
  | .caps a b => [.cap .first a, .cap .second b]
  | .ticks n => List.replicate n .tick
  | .rxs s => s.map .rxb
  | .frame s => .rxb stx :: s.map .rxb ++ [.rxb etx]
  | i => [i]

/-! ## The host's table words -/

/-- The instruction the input port reads from a table word: the bits above `nbits` are 0, and a transaction word has
twelve bits (30_encoding.md R70), so a value with a bit above bit 11 is no word. -/
def decodeTableWord (nbits w : Nat) : Option Instr :=
  if w % 2 ^ nbits < 2 ^ 12 then
    match decodeWord (BitVec.ofNat 12 (w % 2 ^ nbits)) with
    | .ok i => some i
    | .error _ => none
  else none

end Sys2Proof
end

