-- ==== Sys2Proof/Machine/Parameters.lean ====
section
/-! DEFINITION. The default values of the configuration (00_scope.md R7, 40_actuation.md R104) and the derived widths
(00_scope.md R9). -/

namespace Sys2Proof.Machine

open Sys2Proof

/-- The source's primitive table, the default of the parameter `ROM` (40_actuation.md R104, R105). -/
def defaultRom : Rom where
  spinLeft := ⟨⟨69, true⟩, ⟨72, false⟩, .unit⟩
  spinRight := ⟨⟨69, false⟩, ⟨64, true⟩, .unit⟩
  gentleRightFwd := ⟨⟨45, false⟩, ⟨75, false⟩, .adjusted⟩
  gentleLeftFwd := ⟨⟨85, false⟩, ⟨45, false⟩, .unit⟩
  gentleRightBwd := ⟨⟨70, true⟩, ⟨90, true⟩, .unit⟩
  gentleLeftBwd := ⟨⟨85, true⟩, ⟨70, true⟩, .adjusted⟩
  straightFwd := ⟨⟨93, false⟩, ⟨95, false⟩, .unit⟩
  straightBwd := ⟨⟨98, true⟩, ⟨95, true⟩, .unit⟩

/-- The defaults of 00_scope.md R7 with the OPEN parameters as arguments. -/
def defaultParams (u pwmL pwmR hbTicks : Nat) : Params where
  cap := 255
  u := u
  adjMult := 3
  center := 195
  lost1 := 0
  lost2Max := 5
  rom := defaultRom
  pwmL := pwmL
  pwmR := pwmR
  fcap := 12
  hbTicks := hbTicks
  hbPattern := 0xF

/-- The configuration of the vectors of 95_test_vectors.md: every default, and its example values for the OPEN
parameters (`U` = 1, `PWM_L` = `PWM_R` = 1000, `HB_TICKS` = 2). DESIGN CHOICE, unsafe, log entry 1: the OPEN values are
no fact of the block; only `State.reset` uses them, and no statement rests on them. -/
def exampleConfig : Config where
  toParams := defaultParams 1 1000 1000 2
  isLegal := by decide

/-- The row of a primitive in the ROM (00_scope.md R12, `ROM(p)`). -/
def romRow (m : Rom) : RomPrim → RomRow
  | .spinLeft => m.spinLeft
  | .spinRight => m.spinRight
  | .gentleRightFwd => m.gentleRightFwd
  | .gentleLeftFwd => m.gentleLeftFwd
  | .gentleRightBwd => m.gentleRightBwd
  | .gentleLeftBwd => m.gentleLeftBwd
  | .straightFwd => m.straightFwd
  | .straightBwd => m.straightBwd

/-- `MULT(p)`, the number of dwell units a primitive is held (40_actuation.md R105): the MULT column of its ROM row
(log entry 14). -/
def dwellMult (c : Params) (p : RomPrim) : Nat :=
  match (romRow c.rom p).mult with
  | .unit => 1
  | .adjusted => c.adjMult

/-- The ticks of a primitive's dwell, `MULT(p) * U` (40_actuation.md R108). -/
def dwellTicks (c : Params) (p : RomPrim) : Nat := dwellMult c p * c.u

/-- `ceil(log2 n)` for `n >= 1` (00_scope.md R9). -/
def clog2 (n : Nat) : Nat := if 2 ^ Nat.log2 n = n then Nat.log2 n else Nat.log2 n + 1

/-- `w_cur`, the width of `cursor` and `ridx` (00_scope.md R9). -/
def cursorWidth (c : Params) : Nat := clog2 (c.cap + 1)

/-- `w_dw`, the width of `dwell_cnt` (00_scope.md R9). -/
def dwellWidth (c : Params) : Nat := clog2 (c.adjMult * c.u + 1)

/-- The width of `flen` (00_scope.md R9). -/
def flenWidth (c : Params) : Nat := clog2 (c.fcap + 1)

/-- The width of `hb_cnt` (00_scope.md R9). -/
def hbWidth (c : Params) : Nat := clog2 (c.hbTicks + 1)

end Sys2Proof.Machine
end

