-- ==== Sys2Proof/Machine/Memory.lean ====
section
/-! DEFINITION. The two writable memories of 20_memory.md R50, LOG and FBUF, as lists of (index, value) pairs in one
canonical form, and every operation on them. ROM is constant and stands in the configuration (R54). -/

namespace Sys2Proof.Machine

open Sys2Proof

/-- One written entry of the path log: its 1-based index and its 2-bit tag (20_memory.md R51). -/
abbrev LogCell := Nat × BitVec 2

/-- The value listed for an index, if one is. -/
def findCell {w : Nat} (i : Nat) : List (Nat × BitVec w) → Option (BitVec w)
  | [] => none
  | (j, v) :: rest => if i = j then some v else findCell i rest

/-- List a value for an index in its place in the rising order, replacing what was listed. -/
def putCell {w : Nat} (i : Nat) (v : BitVec w) : List (Nat × BitVec w) → List (Nat × BitVec w)
  | [] => [(i, v)]
  | (j, u) :: rest =>
    if i < j then (i, v) :: (j, u) :: rest
    else if i = j then (i, v) :: rest
    else (j, u) :: putCell i v rest

/-- List nothing for an index. -/
def dropCell {w : Nat} (i : Nat) : List (Nat × BitVec w) → List (Nat × BitVec w)
  | [] => []
  | (j, u) :: rest => if i = j then rest else (j, u) :: dropCell i rest

/-- The indices rise strictly. -/
abbrev rising {w : Nat} (l : List (Nat × BitVec w)) : Prop := (l.map Prod.fst).Pairwise (· < ·)

/-- LOG and FBUF. An entry of LOG that is not listed has no value (20_memory.md R52); a byte of FBUF that is not listed
reads 0x00 (20_memory.md R53, 10_state.md R40). -/
structure Memory where
  log : List LogCell
  fbuf : List Host.Cell
  deriving DecidableEq, Repr

/-- What an unlisted byte of FBUF reads as: its reset value (10_state.md R35). -/
def unlistedByte : Byte := 0x00

/-- The canonical form: rising indices, and no listed frame byte equal to what an unlisted one reads as. -/
abbrev Memory.wf (m : Memory) : Prop :=
  rising m.log ∧ rising m.fbuf ∧ ∀ c ∈ m.fbuf, c.2 ≠ unlistedByte

/-- `MemRead(LOG:i, 1)`: the tag of an entry that holds one (00_scope.md R12, 20_memory.md R51). -/
def Memory.logRead (m : Memory) (i : Nat) : Option Tag := (findCell i m.log).map Tag.ofCode

/-- `MemWrite(LOG:i, 1, t)` (00_scope.md R12, 20_memory.md R51). -/
def Memory.logWrite (m : Memory) (i : Nat) (t : Tag) : Memory := { m with log := putCell i t.code m.log }

/-- `MemRead(FBUF:k, 1)` (00_scope.md R12, 20_memory.md R53). -/
def Memory.fbufRead (m : Memory) (k : Nat) : Byte := (findCell k m.fbuf).getD unlistedByte

/-- `MemWrite(FBUF:k, 1, b)` (00_scope.md R12, 20_memory.md R53). -/
def Memory.fbufWrite (m : Memory) (k : Nat) (b : Byte) : Memory :=
  { m with fbuf := if b = unlistedByte then dropCell k m.fbuf else putCell k b m.fbuf }

/-- `MemWrite(FBUF:k, 1, 0x00)` for every `k` (44_frame.md R201, 70_reset_and_hazards.md R260). -/
def Memory.fbufClear (m : Memory) : Memory := { m with fbuf := [] }

end Sys2Proof.Machine
end

