-- ==== Sys2Proof/Machine/State.lean ====
section
/-! DEFINITION. The state of the block (10_state.md R20 to R37), the reasons a step stops, and the state after reset
(10_state.md R40). -/

namespace Sys2Proof.Machine

open Sys2Proof

/-- Why the machine stops with a fault. All are model faults in states that no run from reset reaches
(10_state.md R41), and all are safe: the model stops where the spec picks no action. -/
inductive Fault where
  /-- Any transaction but RST, in a state whose `{phase, sub}` selects no micro-operation (30_encoding.md R78,
  `ReservedState`). Safe. -/
  | reservedState
  /-- Any transaction but RST, in a state whose `prim` is 0x9 to 0xE (30_encoding.md R81). Safe. -/
  | reservedPrim
  /-- Any transaction but RST, in a state whose `fa_state` is 11 (30_encoding.md R85). Safe. -/
  | reservedFaState
  /-- Any transaction but RST, in a state whose `fatal_code` is 3 (30_encoding.md R87, 93_implementation_defined.md
  I14). Safe. -/
  | reservedFatalCode
  /-- RETURN_STEP, when it would read a log entry that was not written since reset (20_memory.md R52). Safe. -/
  | unwrittenLogEntry
  /-- A DWELL tick with `dwell_cnt` = 0 or a DISPLAY_TICK with `hb_cnt` = 0, against the precondition of
  42_navigation.md R143 and R155. DESIGN CHOICE, log entry 11. Safe. -/
  | counterUnderflow
  deriving DecidableEq, Repr

/-- Why an instruction has no meaning where it stands. All are safe: nothing is claimed of the block there. -/
inductive Refusal where
  /-- `exec`, for an instruction the model gives no meaning. Safe. -/
  | notModelled (mnemonic : String)
  /-- `step`, for a transaction word that matches no row (30_encoding.md R77, `ReservedWord`). Safe. -/
  | reservedWord (w : Word)
  /-- A pseudo-instruction that breaks a constraint of 30_encoding.md R89 or R90. Log entry 6. Safe. -/
  | illFormed
  deriving DecidableEq, Repr

/-- The state of the block. Codes are the spec's bit fields, so that a reserved code can be found and faulted
(30_encoding.md R78, R81, R85, R87); 1-bit flags and directions are Bool, `true` for 1. -/
structure State where
  /-- The configuration: no state of the spec's (10_state.md R42), carried here unchanged so that every meaning takes
  it as an argument (log entry 1). -/
  cfg : Config
  /-- `phase` (10_state.md R20, R21). -/
  phase : BitVec 3
  /-- `sub` (10_state.md R20, R22). -/
  sub : BitVec 2
  /-- `dwell_cnt` (10_state.md R23). -/
  dwellCnt : Nat
  /-- `suppress` (10_state.md R24). -/
  suppress : Bool
  /-- `events_en` (10_state.md R25). -/
  eventsEn : Bool
  /-- `frame_valid` (10_state.md R26). -/
  frameValid : Bool
  /-- `cap1` (10_state.md R27). -/
  cap1 : Byte
  /-- `cap2` (10_state.md R27). -/
  cap2 : Byte
  /-- `prim` (10_state.md R28). -/
  prim : BitVec 4
  /-- `pwr_L` (10_state.md R29). -/
  pwrL : BitVec 7
  /-- `dir_L`, `true` for reverse (10_state.md R29). -/
  dirL : Bool
  /-- `pwr_R` (10_state.md R29). -/
  pwrR : BitVec 7
  /-- `dir_R`, `true` for reverse (10_state.md R29). -/
  dirR : Bool
  /-- `cursor` (10_state.md R30). -/
  cursor : Nat
  /-- `ridx` (10_state.md R32). -/
  ridx : Nat
  /-- `fa_state` (10_state.md R33). -/
  faState : BitVec 2
  /-- `flen` (10_state.md R34). -/
  flen : Nat
  /-- `log` and `fbuf` (10_state.md R31, R35). -/
  mem : Memory
  /-- `hb` (10_state.md R36). -/
  hb : Bool
  /-- `hb_cnt` (10_state.md R36). -/
  hbCnt : Nat
  /-- `fatal_code` (10_state.md R37). -/
  fatalCode : BitVec 2
  /-- `disp_evt`, the strobes of the last transaction (10_state.md R39, 60_exceptions.md R243; log entry 9). -/
  dispEvt : BitVec 3
  /-- The model's own field: the transaction words that have not yet arrived (10_state.md R42, 30_encoding.md R70;
  log entry 2). -/
  input : List Word
  deriving DecidableEq, Repr

/-- What a transaction, or an operation inside one, answers. -/
abbrev Out := Host.Outcome State Fault Refusal

/-- The state vector `S[4:0] = {phase[2:0], sub[1:0]}` (30_encoding.md R76). -/
def State.stateVector (s : State) : BitVec 5 := s.phase ++ s.sub

/-- `pc <- (ph, sb)` (00_scope.md R12). -/
def State.setPc (s : State) (ph : Phase) (sb : Sub) : State := { s with phase := ph.code, sub := sb.code }

/-- The state at power-on of a block built with configuration `c` (10_state.md R40, 70_reset_and_hazards.md R262). -/
def State.powerOn (c : Config) : State where
  cfg := c
  phase := Phase.searching.code
  sub := Sub.decide.code
  dwellCnt := 0
  suppress := true
  eventsEn := true
  frameValid := false
  cap1 := 0
  cap2 := 0
  prim := primStop
  pwrL := 0
  dirL := false
  pwrR := 0
  dirR := false
  cursor := 0
  ridx := 0
  faState := FaState.idle.code
  flen := 0
  mem := ⟨[], []⟩
  hb := false
  hbCnt := 0
  fatalCode := 0
  dispEvt := 0
  input := []

/-- The machine right after reset: the power-on state of the configuration of 95_test_vectors.md (log entry 1). -/
def State.reset : State := State.powerOn exampleConfig

end Sys2Proof.Machine
end

