-- ==== Sys2Proof/Machine/Operands.lean ====
section
/-! DEFINITION. Operand forms: the sensor registers by receiver, saturating decrement, the path-log entry a replay
reads, the inverse table, and the hex conversion of the frame bytes. -/

namespace Sys2Proof.Machine

open Sys2Proof

/-- Write the sensor register a receiver names (41_sensor_capture.md R130, `updateChannel`). -/
def State.writeCapture (s : State) (r : Receiver) (v : Byte) : State :=
  match r with
  | .first => { s with cap1 := v }
  | .second => { s with cap2 := v }

/-- Read the sensor register a receiver names (41_sensor_capture.md R131, `readChannel`). -/
def State.readCapture (s : State) (r : Receiver) : Byte :=
  match r with
  | .first => s.cap1
  | .second => s.cap2

/-- `sat_dec` on a power (00_scope.md R11). -/
def satDec (v : BitVec 7) : BitVec 7 := if v = 0 then 0 else v - 1

/-- The tag in log entry `i`, if the entry was written since reset: `1 <= i <= cursor` (20_memory.md R51, R52). -/
def State.logEntry (s : State) (i : Nat) : Option Tag :=
  if 1 ≤ i ∧ i ≤ s.cursor then s.mem.logRead i else none

/-- `INV(t)`, the inverse table (43_pathlog.md R181). -/
def inv : Tag → RomPrim
  | .spinSearch => .spinRight
  | .straightForward => .straightBwd
  | .adjustRight => .gentleLeftBwd
  | .adjustLeft => .gentleRightBwd

/-- `HEXVAL(c)`: the nibble of a hex character, none for every other byte (44_frame.md R208). -/
def hexVal (c : Byte) : Option (BitVec 4) :=
  if 0x30 ≤ c.toNat ∧ c.toNat ≤ 0x39 then some (BitVec.ofNat 4 (c.toNat - 0x30))
  else if 0x41 ≤ c.toNat ∧ c.toNat ≤ 0x46 then some (BitVec.ofNat 4 (c.toNat - 0x37))
  else none

/-- `IS_HEX(c)` (44_frame.md R208). -/
def isHex (c : Byte) : Bool := (hexVal c).isSome

/-- `HEXPAIR(h, l)`, the first character in the high nibble; defined only on hex characters (44_frame.md R209). -/
def hexPair (h l : Byte) : Option Byte :=
  match hexVal h, hexVal l with
  | some a, some b => some (a ++ b)
  | _, _ => none

/-- The binary byte of pair `j` of the frame buffer, bytes `2j` and `2j + 1` (44_frame.md R207). -/
def State.framePair (s : State) (j : Nat) : Option Byte :=
  hexPair (s.mem.fbufRead (2 * j)) (s.mem.fbufRead (2 * j + 1))

end Sys2Proof.Machine
end

