-- ==== Sys2Proof/Machine/Flags.lean ====
section
/-! DEFINITION. The conditions and flags the meanings compute. The block has no arithmetic condition codes
(10_state.md section 2); its one-bit signals are the enables, the sensor comparisons, the frame verdict and the
display strobes. -/

namespace Sys2Proof.Machine

open Sys2Proof

/-- CAP and RXB take effect: `events_en == 1 and phase != HALTED` (41_sensor_capture.md R130, 44_frame.md R200,
60_exceptions.md R235). -/
def State.producersEnabled (s : State) : Bool := s.eventsEn && decide (s.phase ≠ Phase.halted.code)

/-- `dwell_cnt` is 1 before the tick: the tick is the dwell's last (42_navigation.md R143, R144). -/
def State.lastDwellTick (s : State) : Bool := decide (s.dwellCnt = 1)

/-- The frame buffer has no room: not `flen < FCAP` (44_frame.md R204, R205). -/
def State.frameFull (s : State) : Bool := !decide (s.flen < s.cfg.fcap)

/-- The log has no room: the cursor would exceed the capacity (43_pathlog.md R180; log entry 10). -/
def State.logFull (s : State) : Bool := decide (s.cfg.cap ≤ s.cursor)

/-- Both samples equal `CENTER` (42_navigation.md R144, R148). -/
def centered (c : Params) (c1 c2 : Byte) : Bool := decide (c1 = c.center) && decide (c2 = c.center)

/-- The signal is lost: `c1 == LOST1 and c2 <= LOST2_MAX` (42_navigation.md R147). -/
def signalLost (c : Params) (c1 c2 : Byte) : Bool := decide (c1 = c.lost1) && decide (c2 ≤ c.lost2Max)

/-- The six branches of TRACK_DECIDE (42_navigation.md R145). -/
inductive TrackBranch where
  | arrive
  | lost
  | centered
  | right
  | left
  | equal
  deriving DecidableEq, Repr

/-- The first branch of TRACK_DECIDE whose condition holds (42_navigation.md R145). -/
def trackBranch (c : Params) (fv : Bool) (c1 c2 : Byte) : TrackBranch :=
  if fv then .arrive
  else if signalLost c c1 c2 then .lost
  else if centered c c1 c2 then .centered
  else if c1 > c2 then .right
  else if c2 > c1 then .left
  else .equal

/-- The frame checksum: the XOR of the five data pairs, and the reference pair; none if a character of the twelve is
not hex (44_frame.md R207, R210). -/
def State.checksum (s : State) : Option (Byte × Byte) :=
  match s.framePair 0, s.framePair 1, s.framePair 2, s.framePair 3, s.framePair 4, s.framePair 5 with
  | some p0, some p1, some p2, some p3, some p4, some k => some (p0 ^^^ p1 ^^^ p2 ^^^ p3 ^^^ p4, k)
  | _, _, _, _, _, _ => none

/-- EVALUATE's verdict on the collected frame: twelve bytes, all hex, and the XOR equal to the reference
(44_frame.md R207). -/
def State.frameGood (s : State) : Bool :=
  decide (s.flen = 12) &&
    match s.checksum with
    | some (x, ref) => decide (x = ref)
    | none => false

/-- The strobe PAYLOAD, bit 0 of `disp_evt` (30_encoding.md R87, 60_exceptions.md R243). -/
def strobePayload : BitVec 3 := 0b001

/-- The strobe REJECT, bit 1 of `disp_evt` (30_encoding.md R87, 60_exceptions.md R243). -/
def strobeReject : BitVec 3 := 0b010

/-- The strobe FATAL, bit 2 of `disp_evt` (30_encoding.md R87, 60_exceptions.md R243). -/
def strobeFatal : BitVec 3 := 0b100

end Sys2Proof.Machine
end

