-- ==== Sys2Proof/Machine/Ops.lean ====
section
/-! DEFINITION. The shared operations: emitting a strobe, the fatal entry, ISSUE, HOLD, START_STOP, the ramp step,
APPEND, the start of a transaction with its check for reserved codes, and running one instruction after another. -/

namespace Sys2Proof.Machine

open Sys2Proof

/-- `emit E` (00_scope.md R12, 60_exceptions.md R243). -/
def emit (e : BitVec 3) (s : State) : State := { s with dispEvt := s.dispEvt ||| e }

/-- The actuation half of HALT: `prim <- HALT`, both powers 0 and both directions forward at once
(40_actuation.md R119). -/
def driveHalt (s : State) : State :=
  { s with prim := primHalt, pwrL := 0, dirL := false, pwrR := 0, dirR := false }

/-- The fatal entry, `raise Fatal(code)` (60_exceptions.md R232): this block's only exception. There is no return from
it; HALTED is left by RST alone (60_exceptions.md R234, `resetState` below). -/
def fatalEntry (code : FatalCode) (s : State) : State :=
  emit strobeFatal
    { driveHalt (s.setPc .halted .decide) with fatalCode := code.code, eventsEn := false, dwellCnt := 0 }

/-- RST: every element takes its reset value (70_reset_and_hazards.md R260, 10_state.md R40). The old entries of the
log are not erased, and the configuration and the words that have not yet arrived are no state of the block. -/
def resetState (s : State) : State :=
  { State.powerOn s.cfg with mem := s.mem.fbufClear, input := s.input }

/-- `ISSUE(p)` (40_actuation.md R106). -/
def issue (p : RomPrim) (s : State) : State :=
  let row := romRow s.cfg.rom p
  { s with
    prim := p.code
    pwrL := row.left.power
    dirL := row.left.dir
    pwrR := row.right.power
    dirR := row.right.dir }

/-- `HOLD(p)` (40_actuation.md R108). -/
def hold (p : RomPrim) (s : State) : State :=
  { s with dwellCnt := dwellTicks s.cfg.toParams p, sub := Sub.dwell.code }

/-- `START_STOP` (40_actuation.md R109). -/
def startStop (s : State) : State := { s with prim := primStop, sub := Sub.ramp.code }

/-- Both powers lowered by one, saturating: the first lines of RAMP_TICK (40_actuation.md R107). -/
def rampPowers (s : State) : State := { s with pwrL := satDec s.pwrL, pwrR := satDec s.pwrR }

/-- RAMP_TICK with its completion (40_actuation.md R107): one step of both powers, and `done` when both are 0. -/
def rampStep (done : State → State) (s : State) : State :=
  if (rampPowers s).pwrL = 0 ∧ (rampPowers s).pwrR = 0 then done (rampPowers s) else rampPowers s

/-- `APPEND(t)` followed by the rest of the micro-operation (43_pathlog.md R180): on a full log the fatal entry
replaces it all, and nothing is written to LOG. -/
def appendThen (t : Tag) (rest : State → State) (s : State) : State :=
  if s.logFull then fatalEntry .pathlogOverflow s
  else rest { s with cursor := s.cursor + 1, mem := s.mem.logWrite (s.cursor + 1) t }

/-- The model fault of a state that holds a reserved code (30_encoding.md R78, R81, R85, R87; log entry 7). -/
def State.reservedFault (s : State) : Option Fault :=
  if tickSel s.stateVector false = none then some .reservedState
  else if decodePrim s.prim = none then some .reservedPrim
  else if rxSel s.faState 0 false = none then some .reservedFaState
  else if s.fatalCode = 3 then some .reservedFatalCode
  else none

/-- The state in which a transaction begins: the strobes of the one before are cleared (60_exceptions.md R243). -/
def State.begun (s : State) : State := { s with dispEvt := 0 }

/-- One transaction: a reserved code stops it, and otherwise the body runs as one atomic step (00_scope.md R12). -/
def transaction (body : State → Out) (s : State) : Out :=
  match s.reservedFault with
  | some f => .fault f
  | none => body s.begun

/-- One instruction after another, stopping at the first that stops. -/
def andThen (o : Out) (k : State → Out) : Out :=
  match o with
  | .next s => k s
  | .fault f => .fault f
  | .refused r => .refused r

/-- A list of instructions in order. -/
def runList {α : Type} (f : α → State → Out) : List α → State → Out
  | [], s => .next s
  | a :: rest, s => andThen (f a s) (runList f rest)

end Sys2Proof.Machine
end

