-- ==== Sys2Proof/Machine/Capture.lean ====
section
/-! DEFINITION. The sensor capture store: CAP (41_sensor_capture.md). -/

namespace Sys2Proof.Machine

open Sys2Proof

/-- The effect of a CAP inside its transaction (41_sensor_capture.md R130, R132). -/
def captureBody (r : Receiver) (v : Byte) (s : State) : Out :=
  if s.producersEnabled then .next (s.writeCapture r v) else .next s

/-- CAP (41_sensor_capture.md R130): write one sensor register, or nothing while the producers are disabled (R132). -/
def execCap (r : Receiver) (v : Byte) (s : State) : Out := transaction (captureBody r v) s

end Sys2Proof.Machine
end

