-- ==== Sys2Proof/Machine/Frame.lean ====
section
/-! DEFINITION. The identification frame assembler and validator: RXB and the rows of format RXBSEL (44_frame.md). -/

namespace Sys2Proof.Machine

open Sys2Proof

/-- START (44_frame.md R201). -/
def rxStartBody (s : State) : State :=
  { s with faState := FaState.collecting.code, flen := 0, mem := s.mem.fbufClear }

/-- COLLECT(B) (44_frame.md R204). -/
def rxCollectBody (b : Byte) (s : State) : State :=
  { s with mem := s.mem.fbufWrite s.flen b, flen := s.flen + 1 }

/-- ACCEPT (44_frame.md R211). -/
def accept (s : State) : State := { s with faState := FaState.accepted.code, frameValid := true }

/-- REJECT (44_frame.md R212). -/
def reject (s : State) : State := emit strobeReject { s with faState := FaState.idle.code, flen := 0 }

/-- EVALUATE (44_frame.md R203, R207). -/
def rxEvaluateBody (s : State) : State := if s.frameGood then accept s else reject s

/-- The step of the assembler that is selected (44_frame.md R200). -/
def rxOpBody (op : RxOp) (b : Byte) (s : State) : State :=
  match op with
  | .start => rxStartBody s
  | .ignoreIdle => s
  | .endEvaluate => rxEvaluateBody s
  | .collect => rxCollectBody b s
  | .overflow => fatalEntry .frameOverflow s
  | .ignoreAccepted => s

/-- The effect of an RXB inside its transaction (44_frame.md R200, R215). -/
def receiveBody (b : Byte) (s : State) : Out :=
  if s.producersEnabled then
    match rxSel s.faState b s.frameFull with
    | some op => .next (rxOpBody op b s)
    | none => .fault .reservedFaState
  else .next s

/-- RXB (44_frame.md R200). -/
def execRxb (b : Byte) (s : State) : Out := transaction (receiveBody b) s

/-- A row of format RXBSEL: the step `op` of the RXB `b` where the state selects it (44_frame.md R200). Where the state
selects another step, or the producers are disabled, that RXB has the effect it has there (44_frame.md R200, R215; log
entry 3). -/
def rxRow (op : RxOp) (b : Byte) (s : State) : Out :=
  transaction
    (fun s => if s.producersEnabled = true ∧ rxSel s.faState b s.frameFull = some op then .next (rxOpBody op b s)
      else receiveBody b s) s

/-- RX_START: RXB 0x02 in IDLE (44_frame.md R201). -/
def execRxStart (s : State) : Out := rxRow .start stx s

/-- RX_IGNORE_IDLE: RXB of another byte in IDLE (44_frame.md R202). -/
def execRxIgnoreIdle (b : Byte) (s : State) : Out := rxRow .ignoreIdle b s

/-- RX_END_EVALUATE: RXB 0x03 in COLLECTING (44_frame.md R203, R207 to R212). -/
def execRxEndEvaluate (s : State) : Out := rxRow .endEvaluate etx s

/-- RX_COLLECT: RXB of another byte in COLLECTING with room in the buffer (44_frame.md R204). -/
def execRxCollect (b : Byte) (s : State) : Out := rxRow .collect b s

/-- RX_OVERFLOW: RXB of another byte in COLLECTING with the buffer full (44_frame.md R205). -/
def execRxOverflow (b : Byte) (s : State) : Out := rxRow .overflow b s

/-- RX_IGNORE_ACCEPTED: RXB in ACCEPTED (44_frame.md R206). -/
def execRxIgnoreAccepted (b : Byte) (s : State) : Out := rxRow .ignoreAccepted b s

end Sys2Proof.Machine
end

