-- ==== Sys2Proof/Machine/Actuation.lean ====
section
/-! DEFINITION. The maneuver primitives: the rows of format PRIM (40_actuation.md section 4; log entry 4). -/

namespace Sys2Proof.Machine

open Sys2Proof

/-- A primitive with a ROM row: `ISSUE(p)` and then `HOLD(p)` (40_actuation.md R106, R108). -/
def issueAndHold (p : RomPrim) (s : State) : State := hold p (issue p s)

/-- STOP (40_actuation.md R118): START_STOP; the ramp runs in the RAMP_TICKs that follow. -/
def execStop (s : State) : Out := .next (startStop s)

/-- SPIN_LEFT (40_actuation.md R110). -/
def execSpinLeft (s : State) : Out := .next (issueAndHold .spinLeft s)

/-- SPIN_RIGHT (40_actuation.md R111). -/
def execSpinRight (s : State) : Out := .next (issueAndHold .spinRight s)

/-- GENTLE_RIGHT_FWD (40_actuation.md R112). -/
def execGentleRightFwd (s : State) : Out := .next (issueAndHold .gentleRightFwd s)

/-- GENTLE_LEFT_FWD (40_actuation.md R113). -/
def execGentleLeftFwd (s : State) : Out := .next (issueAndHold .gentleLeftFwd s)

/-- GENTLE_RIGHT_BWD (40_actuation.md R114). -/
def execGentleRightBwd (s : State) : Out := .next (issueAndHold .gentleRightBwd s)

/-- GENTLE_LEFT_BWD (40_actuation.md R115). -/
def execGentleLeftBwd (s : State) : Out := .next (issueAndHold .gentleLeftBwd s)

/-- STRAIGHT_FWD (40_actuation.md R116). -/
def execStraightFwd (s : State) : Out := .next (issueAndHold .straightFwd s)

/-- STRAIGHT_BWD (40_actuation.md R117). -/
def execStraightBwd (s : State) : Out := .next (issueAndHold .straightBwd s)

/-- HALT (40_actuation.md R119): powers and directions to 0 at once, with no ramp. -/
def execHalt (s : State) : Out := .next (driveHalt s)

end Sys2Proof.Machine
end

