-- ==== Sys2Proof/Machine/Navigation.lean ====
section
/-! DEFINITION. The navigation state machine: TICK and the rows of format TICKSEL (42_navigation.md, 40_actuation.md
R107). -/

namespace Sys2Proof.Machine

open Sys2Proof

/-- SEARCH_SPIN (42_navigation.md R142): the record comes first, so an overflow issues nothing. -/
def searchSpinBody (s : State) : State :=
  if s.suppress then issueAndHold .spinLeft s
  else appendThen .spinSearch (issueAndHold .spinLeft) s

/-- SEARCH_CHECK, after the decrement to 0 (42_navigation.md R144). -/
def searchCheckBody (s : State) : State :=
  if centered s.cfg.toParams s.cap1 s.cap2 then
    startStop { s with suppress := false, phase := Phase.tracking.code }
  else { s with sub := Sub.decide.code }

/-- DWELL_TICK with what follows the decrement to 0 (42_navigation.md R143). -/
def dwellBody (done : State → State) (s : State) : Out :=
  if s.dwellCnt = 0 then .fault .counterUnderflow
  else if s.dwellCnt = 1 then .next (done { s with dwellCnt := 0 })
  else .next { s with dwellCnt := s.dwellCnt - 1 }

/-- The end of a dwell in TRACKING and RETURNING: `sub <- DECIDE` (42_navigation.md R143). -/
def dwellDone (s : State) : State := { s with sub := Sub.decide.code }

/-- ARRIVE (42_navigation.md R152). -/
def arrive (s : State) : State :=
  startStop { s with phase := Phase.arrived.code, eventsEn := false, ridx := s.cursor }

/-- TRACK_DECIDE (42_navigation.md R145 to R151). -/
def trackDecideBody (s : State) : State :=
  match trackBranch s.cfg.toParams s.frameValid s.cap1 s.cap2 with
  | .arrive => arrive s
  | .lost => s.setPc .searching .decide
  | .centered => appendThen .straightForward (issueAndHold .straightFwd) s
  | .right => appendThen .adjustRight (issueAndHold .gentleRightFwd) s
  | .left => appendThen .adjustLeft (issueAndHold .gentleLeftFwd) s
  | .equal => appendThen .straightForward (issueAndHold .straightFwd) s

/-- The end of a ramp in TRACKING (40_actuation.md R107). -/
def rampDoneTracking (s : State) : State := s.setPc .tracking .decide

/-- The end of a ramp in ARRIVED (40_actuation.md R107). -/
def rampDoneArrived (s : State) : State := s.setPc .returning .decide

/-- The end of a ramp in RETURNING: the heartbeat starts on and PAYLOAD is emitted (40_actuation.md R107,
42_navigation.md R154). -/
def rampDoneReturning (s : State) : State :=
  emit strobePayload { s.setPc .displaying .decide with hb := true, hbCnt := s.cfg.hbTicks }

/-- RETURN_STEP (42_navigation.md R153, R154). -/
def returnStepBody (s : State) : Out :=
  if s.ridx = 0 then .next (startStop s)
  else
    match s.logEntry s.ridx with
    | none => .fault .unwrittenLogEntry
    | some t => .next { issueAndHold (inv t) s with ridx := s.ridx - 1 }

/-- DISPLAY_TICK (42_navigation.md R155). -/
def displayBody (s : State) : Out :=
  if s.hbCnt = 0 then .fault .counterUnderflow
  else if s.hbCnt = 1 then .next { s with hb := !s.hb, hbCnt := s.cfg.hbTicks }
  else .next { s with hbCnt := s.hbCnt - 1 }

/-- The micro-operation that is selected (30_encoding.md R76). -/
def microOpBody (m : MicroOp) (s : State) : Out :=
  match m with
  | .searchSpin => .next (searchSpinBody s)
  | .searchDwell => dwellBody searchCheckBody s
  | .searchCheck => dwellBody searchCheckBody s
  | .trackDecide => .next (trackDecideBody s)
  | .dwellTickTracking => dwellBody dwellDone s
  | .rampTickTracking => .next (rampStep rampDoneTracking s)
  | .rampTickArrived => .next (rampStep rampDoneArrived s)
  | .returnStep => returnStepBody s
  | .dwellTickReturning => dwellBody dwellDone s
  | .rampTickReturning => .next (rampStep rampDoneReturning s)
  | .displayTick => displayBody s
  | .haltTick => .next s

/-- The effect of a TICK inside its transaction: the micro-operation that `(phase, sub)` selects (30_encoding.md R74,
R76). -/
def tickBody (s : State) : Out :=
  match tickSel s.stateVector s.lastDwellTick with
  | some m => microOpBody m s
  | none => .fault .reservedState

/-- TICK (30_encoding.md R74). -/
def execTick (s : State) : Out := transaction tickBody s

/-- A state runs a micro-operation: its state vector is the row's code (30_encoding.md R76). SEARCH_CHECK is the last
tick of a SEARCH_DWELL, so that tick is both rows (42_navigation.md R143, R144). -/
def State.selects (s : State) (m : MicroOp) : Bool :=
  decide (tickSel s.stateVector s.lastDwellTick = some m) ||
    (decide (m = .searchDwell) && decide (tickSel s.stateVector s.lastDwellTick = some .searchCheck))

/-- A row of format TICKSEL: the micro-operation `m` of a TICK where the state selects it (30_encoding.md R76). Where
the state selects another one, the TICK performs that one (30_encoding.md R74, R76, R90; log entry 3). -/
def tickRow (m : MicroOp) (s : State) : Out :=
  transaction (fun s => if s.selects m then microOpBody m s else tickBody s) s

/-- SEARCH_SPIN (42_navigation.md R142). -/
def execSearchSpin (s : State) : Out := tickRow .searchSpin s

/-- SEARCH_DWELL (42_navigation.md R143): its last tick ends in SEARCH_CHECK. -/
def execSearchDwell (s : State) : Out := tickRow .searchDwell s

/-- SEARCH_CHECK (42_navigation.md R144): the last tick of a Searching dwell. -/
def execSearchCheck (s : State) : Out := tickRow .searchCheck s

/-- TRACK_DECIDE (42_navigation.md R145). -/
def execTrackDecide (s : State) : Out := tickRow .trackDecide s

/-- DWELL_TICK in TRACKING (42_navigation.md R143). -/
def execDwellTickTracking (s : State) : Out := tickRow .dwellTickTracking s

/-- RAMP_TICK in TRACKING (40_actuation.md R107). -/
def execRampTickTracking (s : State) : Out := tickRow .rampTickTracking s

/-- RAMP_TICK in ARRIVED (40_actuation.md R107). -/
def execRampTickArrived (s : State) : Out := tickRow .rampTickArrived s

/-- RETURN_STEP (42_navigation.md R153). -/
def execReturnStep (s : State) : Out := tickRow .returnStep s

/-- DWELL_TICK in RETURNING (42_navigation.md R143). -/
def execDwellTickReturning (s : State) : Out := tickRow .dwellTickReturning s

/-- RAMP_TICK in RETURNING (40_actuation.md R107). -/
def execRampTickReturning (s : State) : Out := tickRow .rampTickReturning s

/-- DISPLAY_TICK (42_navigation.md R155). -/
def execDisplayTick (s : State) : Out := tickRow .displayTick s

/-- HALT_TICK (42_navigation.md R156). -/
def execHaltTick (s : State) : Out := tickRow .haltTick s

end Sys2Proof.Machine
end

