-- ==== Sys2Proof/Machine/Control.lean ====
section
/-! DEFINITION. RST (70_reset_and_hazards.md R260) and the pseudo-instructions (30_encoding.md R90). -/

namespace Sys2Proof.Machine

open Sys2Proof

/-- RST (70_reset_and_hazards.md R260): accepted in every state, one that holds a reserved code included (R262, log
entry 8). -/
def execRst (s : State) : Out := .next (resetState s)

/-- `CAPS a, b`: `CAP 1, a` then `CAP 2, b` (30_encoding.md R90). -/
def execCaps (a b : Byte) (s : State) : Out := andThen (execCap .first a s) (execCap .second b)

/-- `n` TICKs in order. -/
def tickTimes : Nat → State → Out
  | 0, s => .next s
  | n + 1, s => andThen (execTick s) (tickTimes n)

/-- `TICKS n`, `n >= 1`: `n` TICKs (30_encoding.md R90). -/
def execTicks (n : Nat) (s : State) : Out :=
  if (Instr.ticks n).wellFormed then tickTimes n s else .refused .illFormed

/-- `RXS "s"`: one RXB for each character, in order (30_encoding.md R90). -/
def execRxs (bs : List Byte) (s : State) : Out :=
  if (Instr.rxs bs).wellFormed then runList execRxb bs s else .refused .illFormed

/-- `FRAME "s"`: `RXB 0x02`, the characters, `RXB 0x03` (30_encoding.md R90). -/
def execFrame (bs : List Byte) (s : State) : Out :=
  if (Instr.frame bs).wellFormed then runList execRxb (stx :: bs ++ [etx]) s else .refused .illFormed

end Sys2Proof.Machine
end

