-- ==== Sys2Proof/Machine/PathLog.lean ====
section
/-! DEFINITION. The path-log records: the rows of format TAG, each recorded by APPEND (43_pathlog.md R180; log
entries 5 and 22). -/

namespace Sys2Proof.Machine

open Sys2Proof

/-- `APPEND(t)` and nothing after it (43_pathlog.md R180). R180 runs APPEND inside SEARCH_SPIN and TRACK_DECIDE alone;
that the row runs in every state, HALTED included, where a full log takes the fatal entry again (against
60_exceptions.md R234, which holds of every step): DESIGN CHOICE, log entry 22. -/
def record (t : Tag) (s : State) : State := appendThen t (fun s => s) s

/-- The record SpinSearch (30_encoding.md R82, 43_pathlog.md R180). -/
def execTagSpinSearch (s : State) : Out := .next (record .spinSearch s)

/-- The record StraightForward (30_encoding.md R82, 43_pathlog.md R180). -/
def execTagStraightForward (s : State) : Out := .next (record .straightForward s)

/-- The record AdjustRight (30_encoding.md R82, 43_pathlog.md R180). -/
def execTagAdjustRight (s : State) : Out := .next (record .adjustRight s)

/-- The record AdjustLeft (30_encoding.md R82, 43_pathlog.md R180). -/
def execTagAdjustLeft (s : State) : Out := .next (record .adjustLeft s)

end Sys2Proof.Machine
end

