-- ==== Sys2Proof/Machine/Dispatch.lean ====
section
/-! DEFINITION. One arm per row of spec/opcode_table.json. -/

namespace Sys2Proof.Machine

open Sys2Proof

/-- The meaning of every instruction. -/
def exec (i : Instr) (s : State) : Host.Outcome State Fault Refusal :=
  match i with
  | .cap r v => Sys2Proof.Machine.execCap r v s
  | .rxb b => Sys2Proof.Machine.execRxb b s
  | .tick => Sys2Proof.Machine.execTick s
  | .rst => Sys2Proof.Machine.execRst s
  | .searchSpin => Sys2Proof.Machine.execSearchSpin s
  | .searchDwell => Sys2Proof.Machine.execSearchDwell s
  | .searchCheck => Sys2Proof.Machine.execSearchCheck s
  | .trackDecide => Sys2Proof.Machine.execTrackDecide s
  | .dwellTickTracking => Sys2Proof.Machine.execDwellTickTracking s
  | .rampTickTracking => Sys2Proof.Machine.execRampTickTracking s
  | .rampTickArrived => Sys2Proof.Machine.execRampTickArrived s
  | .returnStep => Sys2Proof.Machine.execReturnStep s
  | .dwellTickReturning => Sys2Proof.Machine.execDwellTickReturning s
  | .rampTickReturning => Sys2Proof.Machine.execRampTickReturning s
  | .displayTick => Sys2Proof.Machine.execDisplayTick s
  | .haltTick => Sys2Proof.Machine.execHaltTick s
  | .rxStart => Sys2Proof.Machine.execRxStart s
  | .rxIgnoreIdle b => Sys2Proof.Machine.execRxIgnoreIdle b s
  | .rxEndEvaluate => Sys2Proof.Machine.execRxEndEvaluate s
  | .rxCollect b => Sys2Proof.Machine.execRxCollect b s
  | .rxOverflow b => Sys2Proof.Machine.execRxOverflow b s
  | .rxIgnoreAccepted b => Sys2Proof.Machine.execRxIgnoreAccepted b s
  | .stop => Sys2Proof.Machine.execStop s
  | .spinLeft => Sys2Proof.Machine.execSpinLeft s
  | .spinRight => Sys2Proof.Machine.execSpinRight s
  | .gentleRightFwd => Sys2Proof.Machine.execGentleRightFwd s
  | .gentleLeftFwd => Sys2Proof.Machine.execGentleLeftFwd s
  | .gentleRightBwd => Sys2Proof.Machine.execGentleRightBwd s
  | .gentleLeftBwd => Sys2Proof.Machine.execGentleLeftBwd s
  | .straightFwd => Sys2Proof.Machine.execStraightFwd s
  | .straightBwd => Sys2Proof.Machine.execStraightBwd s
  | .halt => Sys2Proof.Machine.execHalt s
  | .tagSpinSearch => Sys2Proof.Machine.execTagSpinSearch s
  | .tagStraightForward => Sys2Proof.Machine.execTagStraightForward s
  | .tagAdjustRight => Sys2Proof.Machine.execTagAdjustRight s
  | .tagAdjustLeft => Sys2Proof.Machine.execTagAdjustLeft s
  | .caps a b => Sys2Proof.Machine.execCaps a b s
  | .ticks n => Sys2Proof.Machine.execTicks n s
  | .rxs bs => Sys2Proof.Machine.execRxs bs s
  | .frame bs => Sys2Proof.Machine.execFrame bs s

end Sys2Proof.Machine
end

