-- ==== Sys2Proof/Machine/Fetch.lean ====
section
/-! DEFINITION. How the next transaction reaches the block: the stream of words that have not yet arrived
(10_state.md R42; log entry 2). -/

namespace Sys2Proof.Machine

open Sys2Proof

/-- The next transaction word of the stream, if one is waiting. -/
def State.nextWord (s : State) : Option Word := s.input.head?

/-- The stream after its next word has been taken. -/
def State.wordTaken (s : State) : State := { s with input := s.input.tail }

/-- The stream with `w` in front of it. -/
def State.arriving (s : State) (w : Word) : State := { s with input := w :: s.input }

/-- No transaction: nothing changes (30_encoding.md R79, 93_implementation_defined.md I15); a state that holds a
reserved code is a model fault here too (30_encoding.md R78; log entries 7 and 21). -/
def idle (s : State) : Out :=
  match s.reservedFault with
  | some f => .fault f
  | none => .next s

end Sys2Proof.Machine
end

