-- ==== Sys2Proof/Machine/Step.lean ====
section
/-! DEFINITION. One step of the machine: the next transaction of the stream (30_encoding.md R70, log entry 2). -/

namespace Sys2Proof.Machine

open Sys2Proof

/-- One step: the next word of the stream is decoded and runs; a reserved word is refused by name (30_encoding.md R77);
with no word waiting there is no transaction and nothing changes (30_encoding.md R79). A reserved word in a state that
holds a reserved code is the refusal of R77, not the model fault of R78: DESIGN CHOICE, log entry 20. -/
def step (s : State) : Host.Outcome State Fault Refusal :=
  match s.nextWord with
  | none => idle s
  | some w =>
    match decodeWord w with
    | .ok i => exec i s.wordTaken
    | .error _ => .refused (.reservedWord w)

/-- `s` with the word `w` next in the stream, the bits above `nbits` zero. -/
def State.withFetchWord (s : State) (nbits w : Nat) : State := s.arriving (BitVec.ofNat 12 (w % 2 ^ nbits))

end Sys2Proof.Machine
end

