-- ==== Sys2Proof/Machine/Assembler.lean ====
section
/-! DEFINITION. The text syntax of a transaction program (30_encoding.md R89, R90; log entry 19): one transaction or
pseudo-instruction a line, over characters. -/

namespace Sys2Proof.Machine

open Sys2Proof

/-- A line up to its comment: a `;` starts a comment that runs to the end of the line (30_encoding.md R89). -/
def stripComment : List Char → List Char
  | [] => []
  | c :: cs => if c = ';' then [] else c :: stripComment cs

/-- A blank between the parts of a line. -/
def isBlank (c : Char) : Bool := decide (c = ' ') || decide (c = '\t')

/-- A line without the blanks at its start. -/
def trimLeft : List Char → List Char
  | [] => []
  | c :: cs => if isBlank c then trimLeft cs else c :: cs

/-- A line without the blanks at both ends. -/
def trim (cs : List Char) : List Char := (trimLeft (trimLeft cs).reverse).reverse

/-- The part before the first character that meets `p`, and what follows that character, if there is one. -/
def splitAtFirst (p : Char → Bool) : List Char → List Char × Option (List Char)
  | [] => ([], none)
  | c :: cs => if p c then ([], some cs) else ((c :: (splitAtFirst p cs).1), (splitAtFirst p cs).2)

/-- A letter in capitals: mnemonics are case-insensitive (30_encoding.md R89). -/
def upper (c : Char) : Char := if 97 ≤ c.toNat ∧ c.toNat ≤ 122 then Char.ofNat (c.toNat - 32) else c

/-- The value of a digit in a base, up to 16. -/
def digit (base : Nat) (c : Char) : Option Nat :=
  let n := c.toNat
  let v :=
    if 48 ≤ n ∧ n ≤ 57 then n - 48
    else if 65 ≤ n ∧ n ≤ 70 then n - 55
    else if 97 ≤ n ∧ n ≤ 102 then n - 87
    else base
  if v < base then some v else none

/-- Digits after a value already read. -/
def digits (base : Nat) : Nat → List Char → Option Nat
  | acc, [] => some acc
  | acc, c :: cs =>
    match digit base c with
    | some d => digits base (acc * base + d) cs
    | none => none

/-- The byte of an ASCII character (30_encoding.md R11, R89). -/
def asciiByte (c : Char) : Option Byte := if c.toNat < 128 then some (BitVec.ofNat 8 c.toNat) else none

/-- A number: decimal, hexadecimal with `0x`, or an ASCII character in single quotes (30_encoding.md R89). -/
def number : List Char → Option Nat
  | [] => none
  | ['\'', c, '\''] => if c.toNat < 128 then some c.toNat else none
  | '0' :: 'x' :: c :: cs => digits 16 0 (c :: cs)
  | c :: cs => digits 10 0 (c :: cs)

/-- A number in 0 to 255 (30_encoding.md R89). -/
def byteNumber (cs : List Char) : Option Byte :=
  match number cs with
  | some n => if n < 256 then some (BitVec.ofNat 8 n) else none
  | none => none

/-- The bytes of a text in ASCII. -/
def asciiBytes : List Char → Option (List Byte)
  | [] => some []
  | c :: cs =>
    match asciiByte c, asciiBytes cs with
    | some b, some bs => some (b :: bs)
    | _, _ => none

/-- A string between double quotes (30_encoding.md R90). -/
def quoted : List Char → Option (List Byte)
  | '"' :: cs =>
    match splitAtFirst (fun c => decide (c = '"')) cs with
    | (text, some []) => asciiBytes text
    | _ => none
  | _ => none

/-- The part before the first comma that is not itself a character in single quotes, and what follows that comma, if
there is one (30_encoding.md R89). -/
def splitAtComma : List Char → List Char × Option (List Char)
  | [] => ([], none)
  | '\'' :: c :: '\'' :: cs => ('\'' :: c :: '\'' :: (splitAtComma cs).1, (splitAtComma cs).2)
  | c :: cs => if c = ',' then ([], some cs) else (c :: (splitAtComma cs).1, (splitAtComma cs).2)

/-- Two operands at a comma. -/
def twoOperands (cs : List Char) : Option (List Char × List Char) :=
  match splitAtComma cs with
  | (a, some b) => some (trim a, trim b)
  | (_, none) => none

/-- `CAP c, v` (30_encoding.md R89): `c` is 1 or 2, `v` is 0 to 255. -/
def asmCap (cs : List Char) : Option Instr :=
  match twoOperands cs with
  | none => none
  | some (c, v) =>
    match number c, byteNumber v with
    | some 1, some b => some (.cap .first b)
    | some 2, some b => some (.cap .second b)
    | _, _ => none

/-- `CAPS a, b` (30_encoding.md R90). -/
def asmCaps (cs : List Char) : Option Instr :=
  match twoOperands cs with
  | none => none
  | some (a, b) =>
    match byteNumber a, byteNumber b with
    | some x, some y => some (.caps x y)
    | _, _ => none

/-- `TICKS n`, `n >= 1` (30_encoding.md R90). -/
def asmTicks (cs : List Char) : Option Instr :=
  match number cs with
  | some (n + 1) => some (.ticks (n + 1))
  | _ => none

/-- The instruction of a mnemonic in capitals and its operand text; none where a constraint is broken
(30_encoding.md R89, R90). -/
def asmInstr (name rest : List Char) : Option Instr :=
  if name = ['C', 'A', 'P'] then asmCap rest
  else if name = ['R', 'X', 'B'] then (byteNumber rest).map .rxb
  else if name = ['T', 'I', 'C', 'K'] then (if rest = [] then some .tick else none)
  else if name = ['R', 'S', 'T'] then (if rest = [] then some .rst else none)
  else if name = ['C', 'A', 'P', 'S'] then asmCaps rest
  else if name = ['T', 'I', 'C', 'K', 'S'] then asmTicks rest
  else if name = ['R', 'X', 'S'] then (quoted rest).map .rxs
  else if name = ['F', 'R', 'A', 'M', 'E'] then (quoted rest).map .frame
  else none

/-- One line of a program: no instruction for a line with nothing before its comment, one for a line that keeps the
syntax, refused (none) for every other line (30_encoding.md R89). -/
def assembleLine (line : List Char) : Option (List Instr) :=
  let body := trim (stripComment line)
  if body = [] then some []
  else
    let parts := splitAtFirst isBlank body
    (asmInstr (parts.1.map upper) (trim (parts.2.getD []))).map fun i => [i]

/-- The transaction words of an instruction that a program may hold. -/
def transactionWords (i : Instr) : List Word :=
  (encode i).filterMap fun c =>
    match c with
    | .tw w => some w
    | .tickSel _ _ => none
    | .rxbSel _ _ => none
    | .prim _ => none
    | .tag _ => none

/-- A whole program: its words in order, refused if one line is. -/
def assemble : List (List Char) → Option (List Word)
  | [] => some []
  | line :: rest =>
    match assembleLine line, assemble rest with
    | some is, some ws => some (is.flatMap transactionWords ++ ws)
    | _, _ => none

end Sys2Proof.Machine
end

