-- ==== Sys2Proof/Machine/Port.lean ====
section
/-! DEFINITION. The port-level interface (30_encoding.md R79): one clock edge as a sequence of transactions, and the
strobes of an edge (60_exceptions.md R243). -/

namespace Sys2Proof.Machine

open Sys2Proof

/-- What the block samples at a rising edge of `clk` (30_encoding.md R79). A data input is present when its valid line
is 1. -/
structure Edge where
  rst : Bool
  cap1 : Option Byte
  cap2 : Option Byte
  rx : Option Byte
  tick : Bool
  deriving DecidableEq, Repr

/-- The instruction of a data input, if its valid line is 1. -/
def ifValid (mk : Byte → Instr) : Option Byte → List Instr
  | some b => [mk b]
  | none => []

/-- The transactions of one edge, in the order of 30_encoding.md R79 (60_exceptions.md R236): RST alone, or `cap1`,
`cap2`, the byte and the tick. -/
def Edge.transactions (e : Edge) : List Instr :=
  if e.rst then [.rst]
  else ifValid (.cap .first) e.cap1 ++ ifValid (.cap .second) e.cap2 ++ ifValid .rxb e.rx ++
    (if e.tick then [.tick] else [])

/-- Transactions in order, with the strobes of all of them in `disp_evt` (60_exceptions.md R243). -/
def runStrobed : List Instr → State → Out
  | [], s => .next s
  | i :: rest, s =>
    andThen (exec i s) fun t =>
      andThen (runStrobed rest t) fun u => .next { u with dispEvt := t.dispEvt ||| u.dispEvt }

/-- One clock edge (30_encoding.md R79); `disp_evt` is the OR of the edge's strobes, so 0 at an edge with no
transaction (60_exceptions.md R243; log entry 16). An edge with no transaction is no model fault even in a state that
holds a reserved code: DESIGN CHOICE, log entry 21. -/
def clockEdge (e : Edge) (s : State) : Out := runStrobed e.transactions { s with dispEvt := 0 }

end Sys2Proof.Machine
end

