-- ==== Sys2Proof/Machine/Outputs.lean ====
section
/-! DEFINITION. The outputs of the block, each a function of the state (10_state.md R39; 40_actuation.md R100 to R103;
44_frame.md R213; 60_exceptions.md R244). -/

namespace Sys2Proof.Machine

open Sys2Proof

/-- The duty of a channel from its power, direction and PWM period (40_actuation.md R100). -/
def dutyValue (power : BitVec 7) (dir : Bool) (period : Nat) : Nat :=
  if dir then period - power.toNat * period / 100 else power.toNat * period / 100

/-- `duty_L` (40_actuation.md R100). -/
def State.dutyL (s : State) : BitVec 16 := BitVec.ofNat 16 (dutyValue s.pwrL s.dirL s.cfg.pwmL)

/-- `duty_R` (40_actuation.md R100). -/
def State.dutyR (s : State) : BitVec 16 := BitVec.ofNat 16 (dutyValue s.pwrR s.dirR s.cfg.pwmR)

/-- `duty_lo`, the low byte of a duty (40_actuation.md R101). -/
def dutyLow (d : BitVec 16) : Byte := d.extractLsb' 0 8

/-- `duty_hi`, the high byte of a duty (40_actuation.md R101). -/
def dutyHigh (d : BitVec 16) : Byte := d.extractLsb' 8 8

/-- `payload_out[k]` (44_frame.md R213). -/
def State.payloadOut (s : State) (k : Nat) : Byte := if s.frameValid then s.mem.fbufRead k else 0x00

/-- `led_out` (60_exceptions.md R244). -/
def State.ledOut (s : State) : BitVec 4 :=
  if s.phase = Phase.displaying.code ∧ s.hb = true then s.cfg.hbPattern else 0x0

/-- Every output of the block (10_state.md R39, 40_actuation.md R101). -/
structure Outputs where
  primOut : BitVec 4
  dutyL : BitVec 16
  dutyR : BitVec 16
  dutyLoL : Byte
  dutyHiL : Byte
  dutyLoR : Byte
  dutyHiR : Byte
  dirOutL : Bool
  dirOutR : Bool
  phaseOut : BitVec 3
  frameValidOut : Bool
  payload : List Byte
  ledOut : BitVec 4
  fatalOut : BitVec 2
  dispEvt : BitVec 3
  deriving DecidableEq, Repr

/-- The outputs in a state (10_state.md R39). -/
def State.outputs (s : State) : Outputs where
  primOut := s.prim
  dutyL := s.dutyL
  dutyR := s.dutyR
  dutyLoL := dutyLow s.dutyL
  dutyHiL := dutyHigh s.dutyL
  dutyLoR := dutyLow s.dutyR
  dutyHiR := dutyHigh s.dutyR
  dirOutL := s.dirL
  dirOutR := s.dirR
  phaseOut := s.phase
  frameValidOut := s.frameValid
  payload := (List.range 10).map s.payloadOut
  ledOut := s.ledOut
  fatalOut := s.fatalCode
  dispEvt := s.dispEvt

end Sys2Proof.Machine
end

