-- ==== Sys2Proof/Safety.lean ====
section
/-! DEFINITION. The terms claims use: the invariant of 10_state.md R41, how a run ends (70_reset_and_hazards.md R272),
and what a safe step is. -/

namespace Sys2Proof.Machine

open Sys2Proof

/-- No reserved code (30_encoding.md R78, R81, R85, R87). -/
abbrev State.CodesOk (s : State) : Prop := s.reservedFault = none

/-- The counters are within their bounds (10_state.md R41; the `hb_cnt` part from R36 and 42_navigation.md R155). -/
abbrev State.CountersOk (s : State) : Prop :=
  s.cursor ≤ s.cfg.cap ∧ s.ridx ≤ s.cursor ∧ s.flen ≤ s.cfg.fcap ∧
  (s.sub = Sub.dwell.code → 1 ≤ s.dwellCnt) ∧ s.dwellCnt ≤ s.cfg.adjMult * s.cfg.u ∧
  (s.phase = Phase.displaying.code → 1 ≤ s.hbCnt) ∧ s.hbCnt ≤ s.cfg.hbTicks ∧
  s.pwrL.toNat ≤ 100 ∧ s.pwrR.toNat ≤ 100

/-- The phase, the flags and the assembler agree (10_state.md R41). -/
abbrev State.PhaseOk (s : State) : Prop :=
  (s.frameValid = true ↔ s.faState = FaState.accepted.code) ∧
  (s.faState = FaState.accepted.code → s.flen = 12) ∧
  (s.sub = Sub.ramp.code → s.prim = primStop) ∧
  ((s.phase = Phase.arrived.code ∨ s.phase = Phase.returning.code ∨ s.phase = Phase.displaying.code) →
    s.eventsEn = false ∧ s.frameValid = true) ∧
  (s.phase = Phase.halted.code ↔ s.fatalCode ≠ 0) ∧
  ((s.phase = Phase.tracking.code ∨ s.phase = Phase.arrived.code ∨ s.phase = Phase.returning.code ∨
    s.phase = Phase.displaying.code) → s.suppress = false)

/-- The memories are canonical, list nothing outside their index ranges, and hold a tag in every entry up to the
cursor (20_memory.md R50 to R53). -/
abbrev State.MemoryOk (s : State) : Prop :=
  s.mem.wf ∧ (∀ c ∈ s.mem.log, 1 ≤ c.1 ∧ c.1 ≤ s.cfg.cap) ∧ (∀ c ∈ s.mem.fbuf, c.1 < s.cfg.fcap) ∧
  ∀ i, i < s.cursor → (s.mem.logRead (i + 1)).isSome = true

/-- The invariant: everything 10_state.md R41 lists, and what else a run from reset keeps. That `sub` = DWELL and RAMP
occur only in the phases R41 names is part of `CodesOk`: every other pair is a reserved state (30_encoding.md R76). -/
abbrev State.Inv (s : State) : Prop := s.CodesOk ∧ s.CountersOk ∧ s.PhaseOk ∧ s.MemoryOk

/-- Mission complete (70_reset_and_hazards.md R272). -/
abbrev State.MissionComplete (s : State) : Prop := s.phase = Phase.displaying.code ∧ s.fatalCode = 0

/-- Halted (70_reset_and_hazards.md R272). -/
abbrev State.Halted (s : State) : Prop := s.phase = Phase.halted.code ∧ s.fatalCode ≠ 0

/-- A run has ended (70_reset_and_hazards.md R272). -/
abbrev State.Ended (s : State) : Prop := s.MissionComplete ∨ s.Halted

/-- The outcome is no model fault. -/
abbrev NoFault (o : Out) : Prop := ∀ f, o ≠ .fault f

/-- The edges of the phase graph (42_navigation.md R140). -/
abbrev PhaseEdge (a b : BitVec 3) : Prop :=
  (a = Phase.searching.code ∧ b = Phase.tracking.code) ∨
  (a = Phase.tracking.code ∧ b = Phase.searching.code) ∨
  (a = Phase.tracking.code ∧ b = Phase.arrived.code) ∨
  (a = Phase.arrived.code ∧ b = Phase.returning.code) ∨
  (a = Phase.returning.code ∧ b = Phase.displaying.code) ∨
  (a ≠ Phase.halted.code ∧ b = Phase.halted.code)

end Sys2Proof.Machine
end

