-- ==== Sys2Proof/Certificates/Slice0/Obligations.lean ====
section
/-! DEFINITION. The statements for the provers. Each docstring names the rules of spec/ it formalises; where a clause is
the model's own choice it names the log entry. -/

open Sys2Proof Sys2Proof.Machine

namespace Sys2Proof.Machine

/-! ## Terms of the statements, written out from the rules -/

/-- The word at the head of the stream is the transaction `i`. -/
abbrev State.Next (s : State) (i : Instr) : Prop := ∃ w rest, s.input = w :: rest ∧ decodeWord w = .ok i

/-- CAP and RXB take effect (60_exceptions.md R235, row "enable"). -/
abbrev State.Enabled (s : State) : Prop := s.eventsEn = true ∧ s.phase ≠ Phase.halted.code

/-- The state is at `(ph, sb)`. -/
abbrev State.At (s : State) (ph : Phase) (sb : Sub) : Prop := s.phase = ph.code ∧ s.sub = sb.code

/-- What ISSUE and HOLD of a primitive write (40_actuation.md R106, R108). -/
def driven (p : RomPrim) (s : State) : State :=
  { s with
    prim := p.code
    pwrL := (romRow s.cfg.rom p).left.power
    dirL := (romRow s.cfg.rom p).left.dir
    pwrR := (romRow s.cfg.rom p).right.power
    dirR := (romRow s.cfg.rom p).right.dir
    dwellCnt := dwellMult s.cfg.toParams p * s.cfg.u
    sub := Sub.dwell.code }

/-- The writes of the fatal entry, with the strobes of its transaction (60_exceptions.md R232). -/
def halted (c : FatalCode) (evt : BitVec 3) (s : State) : State :=
  { s with
    phase := 0b101
    sub := 0b00
    fatalCode := c.code
    eventsEn := false
    prim := 0xF
    pwrL := 0
    dirL := false
    pwrR := 0
    dirR := false
    dwellCnt := 0
    dispEvt := evt }

/-- `u` is `s` with one more record, `t`, at the end of the log (43_pathlog.md R180). -/
abbrev Appended (t : Tag) (s u : State) : Prop :=
  u = { s with cursor := s.cursor + 1, mem := u.mem } ∧
  u.mem.logRead (s.cursor + 1) = some t ∧
  (∀ i, i ≠ s.cursor + 1 → u.mem.logRead i = s.mem.logRead i) ∧
  (∀ k, u.mem.fbufRead k = s.mem.fbufRead k)

/-- A TICK runs the micro-operation `m`, and the row of `m` is that same transaction (30_encoding.md R76). -/
abbrev Performs (m : MicroOp) (s : State) : Prop :=
  exec .tick s = transaction (microOpBody m) s ∧ exec m.instr s = transaction (microOpBody m) s

/-- The byte of an RXBSEL row: the start marker, the end marker, or its operand (44_frame.md R200). -/
def rowByte (op : RxOp) (b : Byte) : Byte :=
  match op with
  | .start => 0x02
  | .ignoreIdle => b
  | .endEvaluate => 0x03
  | .collect => b
  | .overflow => b
  | .ignoreAccepted => b

/-- An RXB of `b` runs the assembler step `op`, and the row of `op` is that same transaction (44_frame.md R200). -/
abbrev Receives (op : RxOp) (b : Byte) (s : State) : Prop :=
  exec (.rxb b) s = .next (rxOpBody op b { s with dispEvt := 0 }) ∧
  exec (op.instr b) s = .next (rxOpBody op b { s with dispEvt := 0 })

/-- An ASCII hex digit, '0' to '9' or 'A' to 'F' (44_frame.md R208). -/
abbrev HexDigit (c : Byte) : Prop := (0x30 ≤ c.toNat ∧ c.toNat ≤ 0x39) ∨ (0x41 ≤ c.toNat ∧ c.toNat ≤ 0x46)

/-- The value of an ASCII hex digit (44_frame.md R208). -/
def hexDigitValue (c : Byte) : Nat := if c.toNat ≤ 0x39 then c.toNat - 0x30 else c.toNat - 0x37

/-- The value of a pair of hex digits, the first one high (44_frame.md R209). -/
def pairValue (h l : Byte) : Nat := 16 * hexDigitValue h + hexDigitValue l

/-- Twelve bytes are a valid frame: hex digits, and the XOR of the five data pairs equal to the last pair
(44_frame.md R207, R210). -/
abbrev GoodFrame (f : Nat → Byte) : Prop :=
  (∀ k, k < 12 → HexDigit (f k)) ∧
  pairValue (f 0) (f 1) ^^^ pairValue (f 2) (f 3) ^^^ pairValue (f 4) (f 5) ^^^ pairValue (f 6) (f 7) ^^^
    pairValue (f 8) (f 9) = pairValue (f 10) (f 11)

/-- One RXB for each byte, in order, whatever the bytes. -/
def received : List Byte → State → Out
  | [], s => .next s
  | b :: rest, s => andThen (exec (.rxb b) s) (received rest)

/-- The state after the tick that completes a Stop ramp (40_actuation.md R107). -/
def rampCompleted (s : State) : State :=
  if s.phase = Phase.tracking.code then { s with pwrL := 0, pwrR := 0, sub := 0b00, dispEvt := 0 }
  else if s.phase = Phase.arrived.code then
    { s with pwrL := 0, pwrR := 0, phase := 0b011, sub := 0b00, dispEvt := 0 }
  else
    { s with pwrL := 0, pwrR := 0, phase := 0b100, sub := 0b00, hb := true, hbCnt := s.cfg.hbTicks, dispEvt := 0b001 }

/-- The state `k` ticks into a Stop ramp that goes on (40_actuation.md R107). -/
def rampLowered (k : Nat) (s : State) : State :=
  { s with
    pwrL := BitVec.ofNat 7 (s.pwrL.toNat - k)
    pwrR := BitVec.ofNat 7 (s.pwrR.toNat - k)
    dispEvt := 0 }

/-- The ticks that replaying the last `j` records before the replay index takes: a RETURN_STEP and its dwell each
(42_navigation.md R161). -/
def replayTicks (s : State) : Nat → Nat
  | 0 => 0
  | j + 1 =>
    replayTicks s j + 1 +
      match s.mem.logRead (s.ridx - j) with
      | some t => dwellMult s.cfg.toParams (inv t) * s.cfg.u
      | none => 0

/-- The reserved transaction words (30_encoding.md R77): CAP with `TW[9]` = 1, RXB with `TW[9:8]` != 0, TICK or RST with
any of `TW[9:0]` != 0. -/
abbrev ReservedBits (w : Word) : Prop :=
  (w.extractLsb' 10 2 = 0b00 ∧ w.getLsbD 9 = true) ∨
  (w.extractLsb' 10 2 = 0b01 ∧ w.extractLsb' 8 2 ≠ 0) ∨
  ((w.extractLsb' 10 2 = 0b10 ∨ w.extractLsb' 10 2 = 0b11) ∧ w.extractLsb' 0 10 ≠ 0)

/-- The left inverse of INV on its four images (43_pathlog.md R186): a law for proofs, no part of the block. -/
def rev : RomPrim → Option Tag
  | .spinRight => some .spinSearch
  | .straightBwd => some .straightForward
  | .gentleLeftBwd => some .adjustRight
  | .gentleRightBwd => some .adjustLeft
  | .spinLeft => none
  | .gentleRightFwd => none
  | .gentleLeftFwd => none
  | .straightFwd => none

/-- The invariants of 10_state.md R41, as it lists them. -/
structure R41 (s : State) : Prop where
  cursorBound : s.cursor ≤ s.cfg.cap ∧ s.ridx ≤ s.cursor
  flenBound : s.flen ≤ s.cfg.fcap
  validIffAccepted : s.frameValid = true ↔ s.faState = FaState.accepted.code
  dwell : s.sub = Sub.dwell.code → 1 ≤ s.dwellCnt ∧ s.dwellCnt ≤ s.cfg.adjMult * s.cfg.u ∧
    (s.phase = Phase.searching.code ∨ s.phase = Phase.tracking.code ∨ s.phase = Phase.returning.code)
  ramp : s.sub = Sub.ramp.code → s.prim = primStop ∧
    (s.phase = Phase.tracking.code ∨ s.phase = Phase.arrived.code ∨ s.phase = Phase.returning.code)
  arrivedRamps : s.phase = Phase.arrived.code → s.sub = Sub.ramp.code
  searchingSub : s.phase = Phase.searching.code → s.sub = Sub.decide.code ∨ s.sub = Sub.dwell.code
  endedSub : s.phase = Phase.displaying.code ∨ s.phase = Phase.halted.code → s.sub = Sub.decide.code
  eventsOff : s.phase = Phase.arrived.code ∨ s.phase = Phase.returning.code ∨ s.phase = Phase.displaying.code →
    s.eventsEn = false ∧ s.frameValid = true
  haltedIffFatal : s.phase = Phase.halted.code ↔ s.fatalCode ≠ 0
  suppressOff : s.phase = Phase.tracking.code ∨ s.phase = Phase.arrived.code ∨ s.phase = Phase.returning.code ∨
    s.phase = Phase.displaying.code → s.suppress = false
  powers : s.pwrL.toNat ≤ 100 ∧ s.pwrR.toNat ≤ 100

end Sys2Proof.Machine

/-! ## Encoding -/

/-- Decoding the codes of a well-formed instruction gives the core instructions it stands for: itself, or the
expansion of a pseudo-instruction (30_encoding.md R71 to R73, R76, R80, R82, R90). -/
def Obligations.DecodeOfEncode : Prop :=
  ∀ i : Instr, i.wellFormed = true → decode (encode i) = .ok (expand i)

/-- A transaction word has one meaning: encoding what it decodes to gives the word back (30_encoding.md R71). -/
def Obligations.EncodeOfDecodedWord : Prop :=
  ∀ (w : Word) (i : Instr), decodeWord w = .ok i → encode i = [.tw w]

/-- Words of the spec's decoding table decode as it says (95_test_vectors.md L2.1). -/
def Obligations.SampleWordsDecode : Prop :=
  decodeWord 0x0C3 = .ok (.cap .first 195) ∧ decodeWord 0x1C3 = .ok (.cap .second 195) ∧
  decodeWord 0x1FF = .ok (.cap .second 255) ∧ decodeWord 0x402 = .ok (.rxb 0x02) ∧
  decodeWord 0x4FF = .ok (.rxb 0xFF) ∧ decodeWord 0x800 = .ok .tick ∧ decodeWord 0xC00 = .ok .rst ∧
  decodeWord 0x200 = .error (.reservedWord 0x200) ∧ decodeWord 0x602 = .error (.reservedWord 0x602) ∧
  decodeWord 0x801 = .error (.reservedWord 0x801) ∧ decodeWord 0xE00 = .error (.reservedWord 0xE00)

/-- A reserved word is refused by name and no other word is; the ports of 30_encoding.md R79 cannot produce one
(30_encoding.md R77). That the refusal comes in a state with a reserved code too is the model's choice of log entry 20. -/
def Obligations.ReservedWordsAreRefused : Prop :=
  (∀ (s : State) (w : Word) (rest : List Word), s.input = w :: rest →
    (step s = .refused (.reservedWord w) ↔ ReservedBits w)) ∧
  ∀ (e : Edge) (i : Instr), i ∈ e.transactions → ∃ w, encode i = [.tw w] ∧ ¬ReservedBits w

/-- PRIM codes 0x9 to 0xE and `fa_state` = 11, and `fatal_code` = 3, are model faults for every transaction but RST
(log entry 8), and no step drives or reaches one (30_encoding.md R81, R85, R87; 93_implementation_defined.md I12 to I14,
which alone gives the fault of `fatal_code` = 3). That CAP and RXB fault there too, and at once, is log entry 7: the
rules do not say when, and 20_memory.md R64 lets CAP and RXB complete whatever the loop's state. -/
def Obligations.ReservedCodesFaultAndAreNeverDriven : Prop :=
  (FaState.idle.code = 0b00 ∧ FaState.collecting.code = 0b01 ∧ FaState.accepted.code = 0b10) ∧
  (∀ s : State, ((9 ≤ s.prim.toNat ∧ s.prim.toNat ≤ 14) ∨ s.faState = 0b11 ∨ s.fatalCode = 3) →
    ∀ (r : Receiver) (v b : Byte),
      (∃ f, exec (.cap r v) s = .fault f) ∧ (∃ f, exec (.rxb b) s = .fault f) ∧ (∃ f, exec .tick s = .fault f)) ∧
  ∀ s t : State, step s = .next t →
    ¬(9 ≤ t.prim.toNat ∧ t.prim.toNat ≤ 14) ∧ t.faState ≠ 0b11 ∧ t.fatalCode ≠ 3

/-- The reserved FSM states are those R78 lists; a transaction other than RST (log entry 8) records the model fault there
and takes no action, and no step from any state reaches one (30_encoding.md R78). That CAP and RXB, not the TICK alone,
record it is log entry 7: R78 does not say when, and 20_memory.md R64 lets CAP and RXB complete whatever the loop's
state. -/
def Obligations.ReservedStatesFault : Prop :=
  (∀ s : State,
    ((s.phase = 0b000 ∧ s.sub = 0b10) ∨ (s.phase = 0b010 ∧ (s.sub = 0b00 ∨ s.sub = 0b01)) ∨
      (s.phase = 0b100 ∧ (s.sub = 0b01 ∨ s.sub = 0b10)) ∨ (s.phase = 0b101 ∧ (s.sub = 0b01 ∨ s.sub = 0b10)) ∨
      s.sub = 0b11 ∨ s.phase = 0b110 ∨ s.phase = 0b111) ↔
    (∀ (r : Receiver) (v b : Byte), exec (.cap r v) s = .fault .reservedState ∧
      exec (.rxb b) s = .fault .reservedState ∧ exec .tick s = .fault .reservedState)) ∧
  ∀ s t : State, step s = .next t → ∃ m, tickSel t.stateVector false = some m

/-! ## The step -/

/-- A step runs the transaction that the next word of the stream is, and takes the word from the stream
(30_encoding.md R70; log entry 2). With no word waiting, nothing changes (30_encoding.md R79; log entry 2). -/
def Obligations.StepRunsDecodedWord : Prop :=
  (∀ (s : State) (w : Word) (rest : List Word) (i : Instr), s.input = w :: rest → decodeWord w = .ok i →
    step s = exec i { s with input := rest }) ∧
  ∀ s : State, s.input = [] → s.CodesOk → step s = .next s

/-- A TICK performs the micro-operation that R76 lists for the state vector, which is the row's own meaning, and faults
in every state R76 does not list (30_encoding.md R76). -/
def Obligations.TickRunsSelectedMicroOperation : Prop :=
  ∀ s : State,
    (s.stateVector = 0b00000 → Performs .searchSpin s) ∧
    (s.stateVector = 0b00001 → Performs .searchDwell s) ∧
    (s.stateVector = 0b00001 → s.dwellCnt = 1 → Performs .searchCheck s) ∧
    (s.stateVector = 0b00100 → Performs .trackDecide s) ∧
    (s.stateVector = 0b00101 → Performs .dwellTickTracking s) ∧
    (s.stateVector = 0b00110 → Performs .rampTickTracking s) ∧
    (s.stateVector = 0b01010 → Performs .rampTickArrived s) ∧
    (s.stateVector = 0b01100 → Performs .returnStep s) ∧
    (s.stateVector = 0b01101 → Performs .dwellTickReturning s) ∧
    (s.stateVector = 0b01110 → Performs .rampTickReturning s) ∧
    (s.stateVector = 0b10000 → Performs .displayTick s) ∧
    (s.stateVector = 0b10100 → Performs .haltTick s) ∧
    (tickSel s.stateVector false = none → exec .tick s = .fault .reservedState)

/-- An RXB runs the assembler step that R200's case table selects, does nothing while the producers are disabled
(R215), and completes in one step in every state without a reserved code (44_frame.md R200; 20_memory.md R64). -/
def Obligations.RxbRunsSelectedStep : Prop :=
  ∀ (s : State) (b : Byte), s.CodesOk →
    (¬s.Enabled → exec (.rxb b) s = .next { s with dispEvt := 0 }) ∧
    (s.Enabled →
      (s.faState = FaState.idle.code → b = 0x02 → Receives .start b s) ∧
      (s.faState = FaState.idle.code → b ≠ 0x02 → Receives .ignoreIdle b s) ∧
      (s.faState = FaState.collecting.code → b = 0x03 → Receives .endEvaluate b s) ∧
      (s.faState = FaState.collecting.code → b ≠ 0x03 → s.flen < s.cfg.fcap → Receives .collect b s) ∧
      (s.faState = FaState.collecting.code → b ≠ 0x03 → ¬s.flen < s.cfg.fcap → Receives .overflow b s) ∧
      (s.faState = FaState.accepted.code → Receives .ignoreAccepted b s)) ∧
    ∃ t, exec (.rxb b) s = .next t

/-- A row of format TICKSEL is a TICK and one of format RXBSEL an RXB of the row's byte, in every state: where the state
selects another row, they do what that row says, and an RXBSEL row does nothing while the producers are disabled. That
a row run in such a state is the transaction it stands for is the model's choice of log entry 3. -/
def Obligations.RowsRunTheTransactionTheyStandFor : Prop :=
  ∀ s : State,
    (∀ m : MicroOp, exec m.instr s = exec .tick s) ∧
    (∀ (op : RxOp) (b : Byte), exec (op.instr b) s = exec (.rxb (rowByte op b)) s) ∧
    (s.CodesOk →
      (∀ m m' : MicroOp, tickSel s.stateVector s.lastDwellTick = some m' →
        exec m.instr s = microOpBody m' { s with dispEvt := 0 }) ∧
      ∀ (op : RxOp) (b : Byte),
        (¬s.Enabled → exec (op.instr b) s = .next { s with dispEvt := 0 }) ∧
        (∀ op' : RxOp, s.Enabled → rxSel s.faState (rowByte op b) s.frameFull = some op' →
          exec (op.instr b) s = .next (rxOpBody op' (rowByte op b) { s with dispEvt := 0 })) ∧
        ∃ t, exec (op.instr b) s = .next t)

/-! ## Sensor capture -/

/-- CAP writes the selected register and nothing else while the producers are enabled, and nothing at all while they
are not (41_sensor_capture.md R130, R132); `CAPS a, b` is `CAP 1, a` then `CAP 2, b` (30_encoding.md R90). -/
def Obligations.CapWritesOneSample : Prop :=
  ∀ s : State, s.CodesOk →
    (s.Enabled → ∀ (r : Receiver) (v : Byte), exec (.cap r v) s = .next
      (match r with
      | .first => { s with cap1 := v, dispEvt := 0 }
      | .second => { s with cap2 := v, dispEvt := 0 })) ∧
    (¬s.Enabled → ∀ (r : Receiver) (v : Byte), exec (.cap r v) s = .next { s with dispEvt := 0 }) ∧
    (s.Enabled → ∀ a b : Byte, exec (.caps a b) s = .next { s with cap1 := a, cap2 := b, dispEvt := 0 }) ∧
    (¬s.Enabled → ∀ a b : Byte, exec (.caps a b) s = .next { s with dispEvt := 0 })

/-- A sample changes only by an effective CAP to its register, or by RST to 0 (10_state.md R27; 41_sensor_capture.md
R133). -/
def Obligations.OnlyCapAndRstWriteSamples : Prop :=
  ∀ s t : State, step s = .next t →
    (t.cap1 = s.cap1 ∨ (∃ v, s.Next (.cap .first v) ∧ s.Enabled ∧ t.cap1 = v) ∨ (s.Next .rst ∧ t.cap1 = 0)) ∧
    (t.cap2 = s.cap2 ∨ (∃ v, s.Next (.cap .second v) ∧ s.Enabled ∧ t.cap2 = v) ∨ (s.Next .rst ∧ t.cap2 = 0))

/-- The two producers write disjoint state: a CAP and an RXB that does not overflow the frame give the same state in
either order, strobes apart (20_memory.md R61; 60_exceptions.md R236). -/
def Obligations.ProducersCommute : Prop :=
  ∀ (s : State) (r : Receiver) (v b : Byte), s.CodesOk →
    ¬(s.faState = FaState.collecting.code ∧ b ≠ 0x03 ∧ s.cfg.fcap ≤ s.flen) →
    ∃ t u t' u', exec (.cap r v) s = .next t ∧ exec (.rxb b) t = .next u ∧ exec (.rxb b) s = .next t' ∧
      exec (.cap r v) t' = .next u' ∧ { u with dispEvt := 0 } = { u' with dispEvt := 0 }

/-! ## The frame assembler -/

/-- START clears the buffer and the length and begins collecting (44_frame.md R201). -/
def Obligations.StartClearsTheBuffer : Prop :=
  ∀ s : State, s.CodesOk → s.Enabled → s.faState = FaState.idle.code →
    ∃ t, exec .rxStart s = .next t ∧ exec (.rxb 0x02) s = .next t ∧
      t = { s with dispEvt := 0, faState := 0b01, flen := 0, mem := t.mem } ∧
      (∀ k, t.mem.fbufRead k = 0x00) ∧ ∀ i, t.mem.logRead i = s.mem.logRead i

/-- A byte other than 0x02 in IDLE, and any byte in ACCEPTED, has no effect (44_frame.md R202, R206). -/
def Obligations.IgnoredBytesChangeNothing : Prop :=
  ∀ (s : State) (b : Byte), s.CodesOk → s.Enabled →
    (s.faState = FaState.idle.code → b ≠ 0x02 →
      exec (.rxIgnoreIdle b) s = .next { s with dispEvt := 0 } ∧ exec (.rxb b) s = .next { s with dispEvt := 0 }) ∧
    (s.faState = FaState.accepted.code →
      exec (.rxIgnoreAccepted b) s = .next { s with dispEvt := 0 } ∧ exec (.rxb b) s = .next { s with dispEvt := 0 })

/-- COLLECT stores the byte at index `flen`, raises `flen` by one, and leaves every other byte and the log as they
were (44_frame.md R204). -/
def Obligations.CollectStoresOneByte : Prop :=
  ∀ (s : State) (b : Byte), s.CodesOk → s.mem.wf → s.Enabled → s.faState = FaState.collecting.code → b ≠ 0x03 →
    s.flen < s.cfg.fcap →
    ∃ t, exec (.rxCollect b) s = .next t ∧ exec (.rxb b) s = .next t ∧
      t = { s with dispEvt := 0, flen := s.flen + 1, mem := t.mem } ∧
      t.mem.fbufRead s.flen = b ∧ (∀ k, k ≠ s.flen → t.mem.fbufRead k = s.mem.fbufRead k) ∧
      ∀ i, t.mem.logRead i = s.mem.logRead i

/-- A byte other than 0x03 with the buffer full takes the fatal entry with code 2, and is not stored (44_frame.md
R205; 60_exceptions.md R231, R232). -/
def Obligations.FrameOverflowHalts : Prop :=
  ∀ (s : State) (b : Byte), s.CodesOk → s.Enabled → s.faState = FaState.collecting.code → b ≠ 0x03 →
    s.flen = s.cfg.fcap →
    exec (.rxOverflow b) s = .next (halted .frameOverflow 0b100 s) ∧
      exec (.rxb b) s = .next (halted .frameOverflow 0b100 s) ∧ (halted .frameOverflow 0b100 s).fatalCode = 2

/-- EVALUATE accepts a frame of twelve hex digits whose checksum matches, and rejects every other (44_frame.md R203,
R207 to R212; which characters are hex digits, and their values, rest on general knowledge: log entry 17). -/
def Obligations.EvaluateFollowsTheChecksum : Prop :=
  ∀ s : State, s.CodesOk → s.Enabled → s.faState = FaState.collecting.code →
    (s.flen = 12 ∧ GoodFrame s.mem.fbufRead →
      exec .rxEndEvaluate s = .next { s with dispEvt := 0, faState := 0b10, frameValid := true }) ∧
    (¬(s.flen = 12 ∧ GoodFrame s.mem.fbufRead) →
      exec .rxEndEvaluate s = .next { s with dispEvt := 0b010, faState := 0b00, flen := 0 }) ∧
    exec (.rxb 0x03) s = exec .rxEndEvaluate s

/-- HEXVAL and IS_HEX on every byte (44_frame.md R208, whose letter offset and range are general knowledge in the spec
itself: log entry 17). -/
def Obligations.HexValueTable : Prop :=
  ∀ c : Byte,
    (0x30 ≤ c.toNat ∧ c.toNat ≤ 0x39 → isHex c = true ∧ ∃ x, hexVal c = some x ∧ x.toNat = c.toNat - 0x30) ∧
    (0x41 ≤ c.toNat ∧ c.toNat ≤ 0x46 → isHex c = true ∧ ∃ x, hexVal c = some x ∧ x.toNat = c.toNat - 0x37) ∧
    (¬HexDigit c → isHex c = false ∧ hexVal c = none)

/-- A frame with a valid payload of twelve characters in which one bit of one character, of the start marker or of the
end marker is flipped on its way is never accepted (44_frame.md R217, its law; a 'C' with bit 6 flipped is 0x03, against
the second item of R217: log entry 18). Which characters are valid, and so that a flipped one is rejected, rests on log
entry 17: were lower-case letters hex digits too, the law would fail. -/
def Obligations.SingleBitErrorIsRejected : Prop :=
  ∀ (s : State) (bs : List Byte) (j : Nat), s.CodesOk → s.Enabled → s.faState = FaState.idle.code → bs.length = 12 →
    GoodFrame (fun k => bs.getD k 0) → j < 8 →
    (∀ k, k < 12 → ∃ t, received (0x02 :: bs.set k (bs.getD k 0 ^^^ (1#8 <<< j)) ++ [0x03]) s = .next t ∧
      t.faState = 0b00 ∧ t.flen = 0 ∧ t.frameValid = s.frameValid ∧ t.phase = s.phase) ∧
    received ((0x02 ^^^ (1#8 <<< j)) :: bs ++ [0x03]) s = .next { s with dispEvt := 0 } ∧
    ∃ t, received (0x02 :: bs ++ [0x03 ^^^ (1#8 <<< j)]) s = .next t ∧ t.frameValid = s.frameValid ∧
      (12 < s.cfg.fcap → t.faState = 0b01 ∧ t.flen = 13 ∧ t.phase = s.phase) ∧
      (s.cfg.fcap = 12 → t.phase = Phase.halted.code ∧ t.fatalCode = 2)

/-- `FRAME` with twelve characters, from IDLE: the bytes are in the buffer in arrival order, the frame is accepted with
its first ten bytes as payload exactly when it is valid, and rejected otherwise; nothing but the assembler's state
changes (44_frame.md R200 to R213; 30_encoding.md R90). Which frames are valid rests on log entry 17. -/
def Obligations.TwelveByteFrameIsJudged : Prop :=
  ∀ (s : State) (bs : List Byte), s.CodesOk → s.Enabled → s.faState = FaState.idle.code → bs.length = 12 →
    (∀ b ∈ bs, isAscii b = true ∧ b ≠ 0x03) →
    ∃ t, exec (.frame bs) s = .next t ∧
      t = { s with faState := t.faState, flen := t.flen, frameValid := t.frameValid, dispEvt := t.dispEvt,
                   mem := t.mem } ∧
      (∀ i, t.mem.logRead i = s.mem.logRead i) ∧ (∀ k, k < 12 → t.mem.fbufRead k = bs.getD k 0) ∧
      (GoodFrame (fun k => bs.getD k 0) → t.faState = 0b10 ∧ t.flen = 12 ∧ t.frameValid = true ∧ t.dispEvt = 0 ∧
        ∀ k, k < 10 → t.payloadOut k = bs.getD k 0) ∧
      (¬GoodFrame (fun k => bs.getD k 0) →
        t.faState = 0b00 ∧ t.flen = 0 ∧ t.frameValid = s.frameValid ∧ t.dispEvt = 0b010)

/-- A start marker and `FCAP + 1` bytes without an end marker halt the block with code 2, the first `FCAP` bytes kept
(44_frame.md R205; 60_exceptions.md R231). -/
def Obligations.UnterminatedFrameHalts : Prop :=
  ∀ (s : State) (bs : List Byte), s.CodesOk → s.Enabled → s.faState = FaState.idle.code →
    bs.length = s.cfg.fcap + 1 → (∀ b ∈ bs, isAscii b = true ∧ b ≠ 0x03) →
    ∃ t, exec (.rxs (0x02 :: bs)) s = .next t ∧ t.phase = Phase.halted.code ∧ t.fatalCode = 2 ∧
      t.flen = s.cfg.fcap ∧ t.dispEvt = 0b100 ∧ (∀ k, k < s.cfg.fcap → t.mem.fbufRead k = bs.getD k 0) ∧
      t.frameValid = s.frameValid ∧ t.cursor = s.cursor ∧ ∀ i, t.mem.logRead i = s.mem.logRead i

/-- `RXS` is one RXB for each character in order and completes; `FRAME` is `RXS` with the two markers added; both leave
the samples, the log, its counters and the suppression flag alone (30_encoding.md R90; 20_memory.md R61, R64). -/
def Obligations.RxsRunsEachByte : Prop :=
  ∀ (s : State) (bs : List Byte), s.CodesOk → (∀ b ∈ bs, isAscii b = true) →
    (∀ b cs, bs = b :: cs → ∃ u, exec (.rxb b) s = .next u ∧ exec (.rxs bs) s = exec (.rxs cs) u) ∧
    exec (.frame bs) s = exec (.rxs (0x02 :: bs ++ [0x03])) s ∧
    (∃ t, exec (.rxs bs) s = .next t ∧ t.cap1 = s.cap1 ∧ t.cap2 = s.cap2 ∧ t.cursor = s.cursor ∧ t.ridx = s.ridx ∧
      t.suppress = s.suppress ∧ (t.phase = s.phase ∨ t.phase = Phase.halted.code) ∧
      ∀ i, t.mem.logRead i = s.mem.logRead i) ∧
    ∃ t, exec (.frame bs) s = .next t

/-- After an acceptance the buffer, `flen`, `fa_state` and `frame_valid` are frozen until RST, and an RXB has no effect
(44_frame.md R206). -/
def Obligations.AcceptedFrameIsFrozen : Prop :=
  ∀ s t : State, s.faState = FaState.accepted.code → step s = .next t →
    s.Next .rst ∨
    (t.faState = FaState.accepted.code ∧ t.frameValid = s.frameValid ∧ t.flen = s.flen ∧
      (∀ k, t.mem.fbufRead k = s.mem.fbufRead k) ∧ ∀ b, s.Next (.rxb b) → t = { s with input := t.input, dispEvt := 0 })

/-- `frame_valid` rises only by the RXB of an end marker that completes a valid frame, and falls only by RST
(44_frame.md R211, R214; 10_state.md R26). Which frames are valid rests on log entry 17. -/
def Obligations.FrameValidIsOneShot : Prop :=
  ∀ s t : State, step s = .next t → t.frameValid ≠ s.frameValid →
    (s.frameValid = true ∧ s.Next .rst) ∨
    (s.frameValid = false ∧ s.Next (.rxb 0x03) ∧ s.faState = FaState.collecting.code ∧ s.flen = 12 ∧
      GoodFrame s.mem.fbufRead ∧ t.faState = FaState.accepted.code)

/-! ## Navigation -/

/-- SEARCH_SPIN records the spin unless the initial sweep suppresses it, and issues and holds SPIN_LEFT; on a full log
it takes the fatal entry and issues nothing (42_navigation.md R142). -/
def Obligations.SearchSpinRecordsAndSpins : Prop :=
  ∀ s : State, s.CodesOk → s.At .searching .decide →
    (s.suppress = true → exec .searchSpin s = .next (driven .spinLeft { s with dispEvt := 0 })) ∧
    (s.suppress = false → s.cursor < s.cfg.cap →
      ∃ u, Appended .spinSearch { s with dispEvt := 0 } u ∧ exec .searchSpin s = .next (driven .spinLeft u)) ∧
    (s.suppress = false → s.cursor = s.cfg.cap → exec .searchSpin s = .next (halted .pathlogOverflow 0b100 s))

/-- A DWELL tick lowers `dwell_cnt`; the last one is SEARCH_CHECK in SEARCHING, and sets `sub` to DECIDE in TRACKING and
RETURNING (42_navigation.md R143). -/
def Obligations.DwellTickCountsDown : Prop :=
  ∀ s : State, s.CodesOk → s.sub = Sub.dwell.code →
    (s.phase = Phase.searching.code → 2 ≤ s.dwellCnt →
      exec .searchDwell s = .next { s with dwellCnt := s.dwellCnt - 1, dispEvt := 0 }) ∧
    (s.phase = Phase.searching.code → s.dwellCnt = 1 →
      exec .searchDwell s = .next (searchCheckBody { s with dwellCnt := 0, dispEvt := 0 }) ∧
      exec .searchCheck s = .next (searchCheckBody { s with dwellCnt := 0, dispEvt := 0 })) ∧
    (s.phase = Phase.tracking.code → 1 ≤ s.dwellCnt →
      exec .dwellTickTracking s = .next
        { s with dwellCnt := s.dwellCnt - 1, sub := if s.dwellCnt = 1 then 0b00 else s.sub, dispEvt := 0 }) ∧
    (s.phase = Phase.returning.code → 1 ≤ s.dwellCnt →
      exec .dwellTickReturning s = .next
        { s with dwellCnt := s.dwellCnt - 1, sub := if s.dwellCnt = 1 then 0b00 else s.sub, dispEvt := 0 })

/-- SEARCH_CHECK: a match of both samples with `CENTER` clears `suppress`, enters TRACKING and starts a Stop; anything
else goes back to DECIDE (42_navigation.md R144). -/
def Obligations.SearchCheckMatchesCenter : Prop :=
  ∀ s : State, s.CodesOk → s.At .searching .dwell → s.dwellCnt = 1 →
    (s.cap1 = s.cfg.center ∧ s.cap2 = s.cfg.center →
      exec .searchCheck s = .next
        { s with dwellCnt := 0, suppress := false, phase := 0b001, prim := 0x0, sub := 0b10, dispEvt := 0 }) ∧
    (¬(s.cap1 = s.cfg.center ∧ s.cap2 = s.cfg.center) →
      exec .searchCheck s = .next { s with dwellCnt := 0, sub := 0b00, dispEvt := 0 }) ∧
    exec .searchDwell s = exec .searchCheck s

/-- TRACK_DECIDE takes the first of its six branches whose condition holds (42_navigation.md R145 to R152). -/
def Obligations.TrackDecideTakesItsBranch : Prop :=
  ∀ s : State, s.CodesOk → s.At .tracking .decide →
    let s0 : State := { s with dispEvt := 0 }
    let lost := s.cap1 = s.cfg.lost1 ∧ s.cap2 ≤ s.cfg.lost2Max
    let centered := s.cap1 = s.cfg.center ∧ s.cap2 = s.cfg.center
    (s.frameValid = true → exec .trackDecide s = .next
      { s0 with phase := 0b010, sub := 0b10, prim := 0x0, eventsEn := false, ridx := s.cursor }) ∧
    (s.frameValid = false → lost → exec .trackDecide s = .next { s0 with phase := 0b000, sub := 0b00 }) ∧
    (s.frameValid = false → ¬lost → s.cursor < s.cfg.cap →
      (centered → ∃ u, Appended .straightForward s0 u ∧ exec .trackDecide s = .next (driven .straightFwd u)) ∧
      (¬centered → s.cap2 < s.cap1 →
        ∃ u, Appended .adjustRight s0 u ∧ exec .trackDecide s = .next (driven .gentleRightFwd u)) ∧
      (¬centered → s.cap1 < s.cap2 →
        ∃ u, Appended .adjustLeft s0 u ∧ exec .trackDecide s = .next (driven .gentleLeftFwd u)) ∧
      (¬centered → s.cap1 = s.cap2 →
        ∃ u, Appended .straightForward s0 u ∧ exec .trackDecide s = .next (driven .straightFwd u))) ∧
    (s.frameValid = false → ¬lost → s.cursor = s.cfg.cap →
      exec .trackDecide s = .next (halted .pathlogOverflow 0b100 s))

/-- RAMP_TICK lowers both powers by one, saturating, and the tick that brings both to 0 moves on by phase
(40_actuation.md R107). -/
def Obligations.RampTickLowersBothPowers : Prop :=
  ∀ s : State, s.CodesOk → s.sub = Sub.ramp.code →
    let out : State := if s.pwrL.toNat ≤ 1 ∧ s.pwrR.toNat ≤ 1 then rampCompleted s else rampLowered 1 s
    (s.phase = Phase.tracking.code → exec .rampTickTracking s = .next out) ∧
    (s.phase = Phase.arrived.code → exec .rampTickArrived s = .next out) ∧
    (s.phase = Phase.returning.code → exec .rampTickReturning s = .next out)

/-- A Stop ramp from powers `(a, b)` takes `max(a, b, 1)` ticks, both powers falling in lockstep (40_actuation.md R107;
42_navigation.md R161, which the spec marks as derived). -/
def Obligations.RampTakesTheLargerPower : Prop :=
  ∀ s : State, s.CodesOk → s.sub = Sub.ramp.code →
    (∀ k, 1 ≤ k → k < max s.pwrL.toNat s.pwrR.toNat → exec (.ticks k) s = .next (rampLowered k s)) ∧
    exec (.ticks (max (max s.pwrL.toNat s.pwrR.toNat) 1)) s = .next (rampCompleted s)

/-- A dwell of `n` ticks ends on its `n`-th DWELL tick, with the outputs unchanged on the way (42_navigation.md
R143). -/
def Obligations.DwellLastsItsCount : Prop :=
  ∀ s : State, s.CodesOk → s.sub = Sub.dwell.code →
    (∀ k, 1 ≤ k → k < s.dwellCnt → exec (.ticks k) s = .next { s with dwellCnt := s.dwellCnt - k, dispEvt := 0 }) ∧
    (s.phase = Phase.tracking.code ∨ s.phase = Phase.returning.code → 1 ≤ s.dwellCnt →
      exec (.ticks s.dwellCnt) s = .next { s with dwellCnt := 0, sub := 0b00, dispEvt := 0 })

/-- RETURN_STEP issues and holds the inverse of the record at the replay index and lowers the index, or starts the
final Stop at index 0 (42_navigation.md R153, R154). Reading an entry above the cursor is a model fault (20_memory.md
R52). -/
def Obligations.ReturnStepIssuesTheInverse : Prop :=
  ∀ s : State, s.CodesOk → s.At .returning .decide →
    (s.ridx = 0 → exec .returnStep s = .next { s with prim := 0x0, sub := 0b10, dispEvt := 0 }) ∧
    (∀ t, 1 ≤ s.ridx → s.ridx ≤ s.cursor → s.mem.logRead s.ridx = some t →
      exec .returnStep s = .next { driven (inv t) s with ridx := s.ridx - 1, dispEvt := 0 }) ∧
    (s.cursor < s.ridx → exec .returnStep s = .fault .unwrittenLogEntry)

/-- The replay issues exactly one primitive per record, the inverses in reversed order, each followed by its dwell, and
then the final Stop; it never changes the log or the cursor (43_pathlog.md R183; R185 and 42_navigation.md R161, which
the spec marks as derived). -/
def Obligations.ReplayIsReversedInverses : Prop :=
  ∀ s : State, s.Inv → s.At .returning .decide →
    (∀ j, j < s.ridx → ∃ t, s.mem.logRead (s.ridx - j) = some t ∧
      exec (.ticks (replayTicks s j + 1)) s =
        .next { driven (inv t) s with ridx := s.ridx - j - 1, dispEvt := 0 }) ∧
    ∃ u, exec (.ticks (replayTicks s s.ridx + 1)) s = .next u ∧ u.At .returning .ramp ∧ u.prim = 0x0 ∧
      u.ridx = 0 ∧ u.cursor = s.cursor ∧ u.mem = s.mem

/-- DISPLAY_TICK counts `hb_cnt` down and toggles the heartbeat at the last count; so in DISPLAYING the heartbeat
toggles once in every `HB_TICKS` ticks, and after `2 * HB_TICKS` ticks from a fresh count the state is the same again
(42_navigation.md R155; 60_exceptions.md R244). -/
def Obligations.HeartbeatTogglesEveryHbTicks : Prop :=
  ∀ s : State, s.CodesOk → s.At .displaying .decide →
    (s.hbCnt = 1 → exec .displayTick s = .next { s with hb := !s.hb, hbCnt := s.cfg.hbTicks, dispEvt := 0 }) ∧
    (2 ≤ s.hbCnt → exec .displayTick s = .next { s with hbCnt := s.hbCnt - 1, dispEvt := 0 }) ∧
    (s.hbCnt = s.cfg.hbTicks →
      (∀ k, 1 ≤ k → k < s.cfg.hbTicks →
        exec (.ticks k) s = .next { s with hbCnt := s.cfg.hbTicks - k, dispEvt := 0 }) ∧
      exec (.ticks s.cfg.hbTicks) s = .next { s with hb := !s.hb, dispEvt := 0 } ∧
      exec (.ticks (2 * s.cfg.hbTicks)) s = .next { s with dispEvt := 0 })

/-- There is no return from HALTED but RST, and a second fatal condition cannot be raised: in HALTED a TICK, a CAP and
an RXB do nothing (60_exceptions.md R234; 42_navigation.md R156). -/
def Obligations.HaltedIsLeftOnlyByReset : Prop :=
  (∀ (s : State) (r : Receiver) (v b : Byte), s.CodesOk → s.phase = Phase.halted.code →
    exec .tick s = .next { s with dispEvt := 0 } ∧ exec .haltTick s = .next { s with dispEvt := 0 } ∧
    exec (.cap r v) s = .next { s with dispEvt := 0 } ∧ exec (.rxb b) s = .next { s with dispEvt := 0 }) ∧
  ∀ s t : State, s.phase = Phase.halted.code → step s = .next t →
    s.Next .rst ∨ (t.phase = Phase.halted.code ∧ t.fatalCode = s.fatalCode)

/-- The phase graph: a step that changes the phase is an RST, or takes one of the edges of R140 by the micro-operation
and under the condition R140 names (42_navigation.md R140). -/
def Obligations.PhaseChangesFollowTheGraph : Prop :=
  ∀ s t : State, step s = .next t → t.phase ≠ s.phase →
    s.Next .rst ∨
    (s.Next .tick ∧ s.At .searching .dwell ∧ s.dwellCnt = 1 ∧ s.cap1 = s.cfg.center ∧ s.cap2 = s.cfg.center ∧
      t.phase = Phase.tracking.code) ∨
    (s.Next .tick ∧ s.At .tracking .decide ∧ s.frameValid = false ∧ s.cap1 = s.cfg.lost1 ∧
      s.cap2 ≤ s.cfg.lost2Max ∧ t.phase = Phase.searching.code) ∨
    (s.Next .tick ∧ s.At .tracking .decide ∧ s.frameValid = true ∧ t.phase = Phase.arrived.code) ∨
    (s.Next .tick ∧ s.At .arrived .ramp ∧ s.pwrL.toNat ≤ 1 ∧ s.pwrR.toNat ≤ 1 ∧ t.phase = Phase.returning.code) ∨
    (s.Next .tick ∧ s.At .returning .ramp ∧ s.pwrL.toNat ≤ 1 ∧ s.pwrR.toNat ≤ 1 ∧
      t.phase = Phase.displaying.code) ∨
    (s.phase ≠ Phase.halted.code ∧ t.phase = Phase.halted.code ∧
      ((s.Next .tick ∧ t.fatalCode = 1) ∨ ((∃ b, s.Next (.rxb b)) ∧ t.fatalCode = 2)))

/-- Fatal conditions are precise: the state after the fatal entry is the state before the transaction with the writes
of R232 added and nothing else, and the cause is the one R231 gives for the recorded code (60_exceptions.md R231 to
R233). -/
def Obligations.FatalEntryIsPrecise : Prop :=
  ∀ s t : State, step s = .next t → s.phase ≠ Phase.halted.code → t.phase = Phase.halted.code →
    (s.Next .tick ∧ s.cfg.cap ≤ s.cursor ∧ t = { halted .pathlogOverflow 0b100 s with input := t.input }) ∨
    (∃ b, s.Next (.rxb b) ∧ b ≠ 0x03 ∧ s.faState = FaState.collecting.code ∧ s.cfg.fcap ≤ s.flen ∧
      t = { halted .frameOverflow 0b100 s with input := t.input })

/-- The suppression flag: only the first match clears it, in the tick that enters TRACKING, and only RST sets it
(42_navigation.md R158, which the spec marks as derived; 10_state.md R24). `events_en` is cleared only by ARRIVE and the
fatal entry, and set only by RST (10_state.md R25). -/
def Obligations.FlagsChangeOnlyAsTheirRulesSay : Prop :=
  ∀ s t : State, step s = .next t →
    (t.suppress ≠ s.suppress →
      (s.suppress = false ∧ s.Next .rst) ∨
      (s.suppress = true ∧ s.Next .tick ∧ s.phase = Phase.searching.code ∧ t.phase = Phase.tracking.code ∧
        s.cap1 = s.cfg.center ∧ s.cap2 = s.cfg.center)) ∧
    (t.eventsEn ≠ s.eventsEn →
      (s.eventsEn = false ∧ s.Next .rst) ∨
      (s.eventsEn = true ∧ (t.phase = Phase.arrived.code ∨ t.phase = Phase.halted.code)))

/-! ## The path log -/

/-- APPEND of each record: one more entry, or the fatal entry with code 1 on a full log (43_pathlog.md R180). The rows
of format TAG stand for it (log entry 5), and that they run in every state, HALTED included, is the model's choice of
log entry 22. -/
def Obligations.RecordsAreAppended : Prop :=
  ∀ (t : Tag) (s : State),
    (s.cursor < s.cfg.cap → ∃ u, Appended t s u ∧ exec t.instr s = .next u) ∧
    (s.cursor = s.cfg.cap →
      exec t.instr s = .next (halted .pathlogOverflow (s.dispEvt ||| 0b100) s) ∧
      (halted .pathlogOverflow (s.dispEvt ||| 0b100) s).fatalCode = 1)

/-- The log only grows, one record at a time and never past `CAP`, in SEARCHING and TRACKING alone; no step but RST
lowers the cursor, and no step changes an entry that is already written (10_state.md R30; 43_pathlog.md R180, R184;
20_memory.md R51). -/
def Obligations.LogIsAppendOnly : Prop :=
  ∀ s t : State, s.cursor ≤ s.cfg.cap → step s = .next t →
    (s.Next .rst ∧ t.cursor = 0 ∧ ∀ i, t.mem.logRead i = s.mem.logRead i) ∨
    ((t.cursor = s.cursor ∨ (t.cursor = s.cursor + 1 ∧ t.cursor ≤ s.cfg.cap ∧
        (s.phase = Phase.searching.code ∨ s.phase = Phase.tracking.code))) ∧
      (∀ i, i ≤ s.cursor → t.mem.logRead i = s.mem.logRead i) ∧
      (t.cursor = s.cursor → ∀ i, t.mem.logRead i = s.mem.logRead i))

/-- The inverse table, with the PRIM codes and the dwell of each inverse (43_pathlog.md R181), and its agreement with
the dwell of the primitive that recorded the tag (R182); the MULT column as 40_actuation.md R105 fixes it (log entry
14). -/
def Obligations.InverseTable : Prop :=
  inv .spinSearch = .spinRight ∧ inv .straightForward = .straightBwd ∧ inv .adjustRight = .gentleLeftBwd ∧
  inv .adjustLeft = .gentleRightBwd ∧
  (inv .spinSearch).code = 0x2 ∧ (inv .straightForward).code = 0x8 ∧ (inv .adjustRight).code = 0x6 ∧
  (inv .adjustLeft).code = 0x5 ∧
  ∀ c : Params, c.rom = defaultRom →
    (dwellMult c (inv .spinSearch) = 1 ∧ dwellMult c .spinLeft = 1) ∧
    (dwellMult c (inv .straightForward) = 1 ∧ dwellMult c .straightFwd = 1) ∧
    (dwellMult c (inv .adjustRight) = c.adjMult ∧ dwellMult c .gentleRightFwd = c.adjMult) ∧
    (dwellMult c (inv .adjustLeft) = 1 ∧ dwellMult c .gentleLeftFwd = 1)

/-- INV is injective and REV undoes it: reversing a replayed sequence and mapping it through REV gives the recorded
tags back (43_pathlog.md R186, which the spec marks as derived). -/
def Obligations.InversionIsUndone : Prop :=
  (∀ a b : Tag, inv a = inv b → a = b) ∧
  ∀ l : List Tag, ((l.reverse.map inv).reverse.mapM rev) = some l

/-! ## Actuation and outputs -/

/-- A primitive with a ROM row drives the powers and directions of its row and starts its dwell; STOP changes `prim`
and `sub` only; HALT drops both powers at once (40_actuation.md R106, R108 to R119; log entry 4). -/
def Obligations.PrimitivesDriveTheirRow : Prop :=
  (∀ (p : RomPrim) (s : State), exec p.instr s = .next (driven p s)) ∧
  ∀ s : State,
    exec .stop s = .next { s with prim := 0x0, sub := 0b10 } ∧
    exec .halt s = .next { s with prim := 0xF, pwrL := 0, dirL := false, pwrR := 0, dirR := false }

/-- The default primitive table (40_actuation.md R104, R105). -/
def Obligations.DefaultPrimitiveTable : Prop :=
  ∀ s : State, s.cfg.rom = defaultRom → ∀ p : RomPrim, ∃ t, exec p.instr s = .next t ∧
    ((t.pwrL, t.dirL, t.pwrR, t.dirR, t.dwellCnt) =
      match p with
      | .spinLeft => (69, true, 72, false, s.cfg.u)
      | .spinRight => (69, false, 64, true, s.cfg.u)
      | .gentleRightFwd => (45, false, 75, false, s.cfg.adjMult * s.cfg.u)
      | .gentleLeftFwd => (85, false, 45, false, s.cfg.u)
      | .gentleRightBwd => (70, true, 90, true, s.cfg.u)
      | .gentleLeftBwd => (85, true, 70, true, s.cfg.adjMult * s.cfg.u)
      | .straightFwd => (93, false, 95, false, s.cfg.u)
      | .straightBwd => (98, true, 95, true, s.cfg.u))

/-- The duty law: `0 <= duty <= PWM` and its value in both directions, for every state that keeps the power bound
(40_actuation.md R100, R102). -/
def Obligations.DutyLaw : Prop :=
  ∀ s : State, s.pwrL.toNat ≤ 100 → s.pwrR.toNat ≤ 100 →
    s.dutyL.toNat ≤ s.cfg.pwmL ∧ s.dutyR.toNat ≤ s.cfg.pwmR ∧
    (s.dirL = false → s.dutyL.toNat = s.pwrL.toNat * s.cfg.pwmL / 100) ∧
    (s.dirL = true → s.dutyL.toNat = s.cfg.pwmL - s.pwrL.toNat * s.cfg.pwmL / 100) ∧
    (s.dirR = false → s.dutyR.toNat = s.pwrR.toNat * s.cfg.pwmR / 100) ∧
    (s.dirR = true → s.dutyR.toNat = s.cfg.pwmR - s.pwrR.toNat * s.cfg.pwmR / 100)

/-- The outputs: the duty bytes put together give the duty, the payload shows only while `frame_valid` is 1, the
indicator shows `HB_PATTERN` only in DISPLAYING with `hb` = 1, and the rest are the registers (10_state.md R39;
40_actuation.md R101; 44_frame.md R213; 60_exceptions.md R244). -/
def Obligations.OutputsFollowTheState : Prop :=
  ∀ s : State,
    s.outputs.dutyHiL ++ s.outputs.dutyLoL = s.dutyL ∧ s.outputs.dutyHiR ++ s.outputs.dutyLoR = s.dutyR ∧
    s.outputs.dirOutL = s.dirL ∧ s.outputs.dirOutR = s.dirR ∧ s.outputs.primOut = s.prim ∧
    s.outputs.phaseOut = s.phase ∧ s.outputs.fatalOut = s.fatalCode ∧ s.outputs.frameValidOut = s.frameValid ∧
    s.outputs.dispEvt = s.dispEvt ∧ s.outputs.payload.length = 10 ∧
    (∀ k, k < 10 → s.outputs.payload.getD k 0 = if s.frameValid then s.mem.fbufRead k else 0x00) ∧
    s.outputs.ledOut = (if s.phase = 0b100 ∧ s.hb = true then s.cfg.hbPattern else 0x0)

/-- `disp_evt` after a transaction holds only what that transaction emitted: PAYLOAD exactly when it entered
DISPLAYING, FATAL exactly when it entered HALTED, REJECT only for an end marker that was not accepted (60_exceptions.md
R243). -/
def Obligations.StrobesMarkTheirTransaction : Prop :=
  ∀ (s t : State) (i : Instr), s.Next i → step s = .next t →
    (t.dispEvt = 0b001 ↔ (i = .tick ∧ s.phase ≠ Phase.displaying.code ∧ t.phase = Phase.displaying.code)) ∧
    (t.dispEvt = 0b100 ↔ (i ≠ .rst ∧ s.phase ≠ Phase.halted.code ∧ t.phase = Phase.halted.code)) ∧
    (t.dispEvt = 0b010 ↔ (i = .rxb 0x03 ∧ s.Enabled ∧ s.faState = FaState.collecting.code ∧
      t.faState = FaState.idle.code)) ∧
    (t.dispEvt = 0b000 ∨ t.dispEvt = 0b001 ∨ t.dispEvt = 0b010 ∨ t.dispEvt = 0b100)

/-- In one clock edge a CAP is seen by the decision of the same edge: two centered captures with the last tick of a
Searching dwell enter TRACKING (30_encoding.md R79; 70_reset_and_hazards.md R265). -/
def Obligations.EdgeCaptureReachesItsDecision : Prop :=
  ∀ s : State, s.CodesOk → s.Enabled → s.At .searching .dwell → s.dwellCnt = 1 →
    clockEdge ⟨false, some s.cfg.center, some s.cfg.center, none, true⟩ s = .next
      { s with cap1 := s.cfg.center, cap2 := s.cfg.center, dwellCnt := 0, suppress := false, phase := 0b001,
               prim := 0x0, sub := 0b10, dispEvt := 0 }

/-! ## Reset -/

/-- RST gives every element its reset value from any state whatever, keeps the old log entries and emits no event; at a
clock edge with `rst` = 1 the other inputs are dropped (70_reset_and_hazards.md R260). The state before the first
transaction is that reset state, for every configuration (10_state.md R40; 70_reset_and_hazards.md R262). That RST
leaves a state with a reserved code too is log entry 8, and the value of `disp_evt` log entry 9: the model's choices. -/
def Obligations.RstLoadsTheResetState : Prop :=
  (∀ s : State, ∃ t, exec .rst s = .next t ∧ t.At .searching .decide ∧ t.dwellCnt = 0 ∧ t.suppress = true ∧
    t.eventsEn = true ∧ t.frameValid = false ∧ t.cap1 = 0 ∧ t.cap2 = 0 ∧ t.prim = 0x0 ∧ t.pwrL = 0 ∧
    t.dirL = false ∧ t.pwrR = 0 ∧ t.dirR = false ∧ t.cursor = 0 ∧ t.ridx = 0 ∧ t.faState = 0b00 ∧ t.flen = 0 ∧
    (∀ k, t.mem.fbufRead k = 0x00) ∧ (∀ i, t.mem.logRead i = s.mem.logRead i) ∧ t.hb = false ∧ t.hbCnt = 0 ∧
    t.fatalCode = 0 ∧ t.dispEvt = 0 ∧ t.cfg = s.cfg ∧ t.input = s.input) ∧
  (∀ (s : State) (e : Edge), e.rst = true → clockEdge e s = exec .rst s) ∧
  ∀ s : State, s.input = [] → s.mem.log = [] → exec .rst s = .next (State.powerOn s.cfg)

/-- The invariant holds at power-on, for every configuration and every stream of words (10_state.md R40, R41). -/
def Obligations.InvariantHoldsAtPowerOn : Prop :=
  (∀ (c : Config) (ws : List Word), State.Inv { State.powerOn c with input := ws }) ∧ State.reset.Inv

/-! ## The whole machine -/

/-- Every step keeps the invariant, from every state that has it (10_state.md R41, which the spec marks as derived). -/
def Obligations.StepKeepsTheInvariant : Prop :=
  ∀ s t : State, s.Inv → step s = .next t → t.Inv

/-- From a state that has the invariant no step is a model fault: a transaction completes, or is a reserved word that
is refused (10_state.md R41; 30_encoding.md R78; 20_memory.md R52, R64). -/
def Obligations.NoStepFaultsUnderTheInvariant : Prop :=
  ∀ s : State, s.Inv → NoFault (step s) ∧
    ((∃ t, step s = .next t) ∨ ∃ w, s.input.head? = some w ∧ ReservedBits w ∧ step s = .refused (.reservedWord w))

/-- Every state reachable from reset has the invariants R41 lists, whatever the configuration and the stream of words
(10_state.md R41, which the spec marks as derived and asks a model to check as laws). -/
def Obligations.ReachableStatesSatisfyR41 : Prop :=
  ∀ (c : Config) (ws : List Word) (k : Nat) (t : State),
    Host.Core.run Sys2Proof.core k { State.powerOn c with input := ws } = .next t → R41 t

/-- A TICK always completes in a state with the invariant, and so does any number of them (42_navigation.md R141;
70_reset_and_hazards.md R271). -/
def Obligations.TicksComplete : Prop :=
  ∀ s : State, s.Inv →
    (∃ t, exec .tick s = .next t ∧ t.Inv) ∧ ∀ n, 1 ≤ n → ∃ t, exec (.ticks n) s = .next t ∧ t.Inv

/-- No step changes the configuration (10_state.md R42; 20_memory.md R54). The clause on `input`, that a step takes at
most the head of the stream, is about the model's own field: the model's choice of log entry 2. -/
def Obligations.StepKeepsTheConfiguration : Prop :=
  ∀ s t : State, step s = .next t → t.cfg = s.cfg ∧ t.input = s.input.tail

/-- DISPLAYING and HALTED are final: only RST leaves them (70_reset_and_hazards.md R261, R272; 42_navigation.md
R140). -/
def Obligations.EndedRunsStayEnded : Prop :=
  ∀ s t : State, s.Inv → s.Ended → step s = .next t →
    s.Next .rst ∨ (t.Ended ∧ t.phase = s.phase ∧ t.fatalCode = s.fatalCode ∧ t.pwrL = s.pwrL ∧ t.pwrR = s.pwrR ∧
      t.cursor = s.cursor ∧ ∀ k, t.payloadOut k = s.payloadOut k)

/-- The counters fit the widths that follow from the parameters (00_scope.md R9, derived in the spec; log entry 13). -/
def Obligations.CountersFitTheirWidths : Prop :=
  ∀ s : State, s.Inv → s.cursor < 2 ^ cursorWidth s.cfg.toParams ∧ s.ridx < 2 ^ cursorWidth s.cfg.toParams ∧
    s.dwellCnt < 2 ^ dwellWidth s.cfg.toParams ∧ s.flen < 2 ^ flenWidth s.cfg.toParams ∧
    s.hbCnt < 2 ^ hbWidth s.cfg.toParams

/-! ## The assembler -/

/-- The text syntax on lines of every form, and lines that break a constraint refused (30_encoding.md R89, R90; log
entry 19). -/
def Obligations.AssemblerReadsSampleLines : Prop :=
  assemble [['R', 'S', 'T'], ['c', 'a', 'p', ' ', '1', ',', ' ', '0', 'x', 'C', '3', ';', 'x'],
      ['R', 'X', 'B', ' ', '\'', '1', '\''], ['T', 'I', 'C', 'K', 'S', ' ', '2'],
      ['F', 'R', 'A', 'M', 'E', ' ', '"', '1', '"']] =
    some [0xC00, 0x0C3, 0x431, 0x800, 0x800, 0x402, 0x431, 0x403] ∧
  assembleLine ['C', 'A', 'P', 'S', ' ', '\'', ',', '\'', ',', ' ', '5'] = some [.caps 0x2C 5] ∧
  assembleLine ['C', 'A', 'P', ' ', '3', ',', '0'] = none ∧
  assembleLine ['R', 'X', 'B', ' ', '2', '5', '6'] = none ∧
  assembleLine ['T', 'I', 'C', 'K', 'S', ' ', '0'] = none
end

