-- ==== Sys2Proof/Laws/Memory.lean ====
section
/-! SUPPORT. The laws of the two memories: reading after writing, and the canonical form kept by every operation
(20_memory.md R51, R53). -/

namespace Sys2Proof.Machine

open Sys2Proof

variable {w : Nat}

theorem findCell_putCell_same (i : Nat) (v : BitVec w) (l : List (Nat × BitVec w)) :
    findCell i (putCell i v l) = some v := by
  induction l with
  | nil => simp [putCell, findCell]
  | cons c rest ih =>
    obtain ⟨j, u⟩ := c
    simp only [putCell]
    split
    · simp [findCell]
    · split
      · simp [findCell]
      · rename_i h; simp [findCell, h, ih]

theorem findCell_putCell_other (i k : Nat) (v : BitVec w) (l : List (Nat × BitVec w)) (h : k ≠ i) :
    findCell k (putCell i v l) = findCell k l := by
  induction l with
  | nil => simp [putCell, findCell, h]
  | cons c rest ih =>
    obtain ⟨j, u⟩ := c
    simp only [putCell]
    split
    · simp [findCell, h]
    · split
      · rename_i hij; subst hij; simp [findCell, h]
      · simp only [findCell, ih]

theorem findCell_eq_none_of_lt (i : Nat) (l : List (Nat × BitVec w)) (h : ∀ c ∈ l, i < c.1) :
    findCell i l = none := by
  induction l with
  | nil => rfl
  | cons c rest ih =>
    have hc := h c (by simp)
    simp only [findCell, if_neg (Nat.ne_of_lt hc)]
    exact ih fun d hd => h d (by simp [hd])

theorem findCell_dropCell_other (i k : Nat) (l : List (Nat × BitVec w)) (h : k ≠ i) :
    findCell k (dropCell i l) = findCell k l := by
  induction l with
  | nil => rfl
  | cons c rest ih =>
    obtain ⟨j, u⟩ := c
    simp only [dropCell]
    split
    · rename_i hij; subst hij; simp [findCell, h]
    · simp only [findCell, ih]

theorem findCell_dropCell_same (i : Nat) (l : List (Nat × BitVec w)) (h : rising l) :
    findCell i (dropCell i l) = none := by
  induction l with
  | nil => rfl
  | cons c rest ih =>
    obtain ⟨j, u⟩ := c
    simp only [rising, List.map_cons, List.pairwise_cons, List.mem_map, forall_exists_index, and_imp,
      forall_apply_eq_imp_iff₂] at h
    simp only [dropCell]
    split
    · rename_i hij; subst hij
      exact findCell_eq_none_of_lt i rest h.1
    · rename_i hij
      simp only [findCell, if_neg hij]
      exact ih h.2

theorem mem_putCell {i : Nat} {v : BitVec w} {l : List (Nat × BitVec w)} {c : Nat × BitVec w}
    (h : c ∈ putCell i v l) : c = (i, v) ∨ c ∈ l := by
  induction l with
  | nil => simpa [putCell] using h
  | cons d rest ih =>
    obtain ⟨j, u⟩ := d
    simp only [putCell] at h
    split at h
    · simpa using h
    · split at h
      · simp only [List.mem_cons] at h ⊢; tauto
      · simp only [List.mem_cons] at h ⊢
        rcases h with h | h
        · tauto
        · rcases ih h with h | h <;> tauto

theorem mem_dropCell {i : Nat} {l : List (Nat × BitVec w)} {c : Nat × BitVec w}
    (h : c ∈ dropCell i l) : c ∈ l := by
  induction l with
  | nil => exact h
  | cons d rest ih =>
    obtain ⟨j, u⟩ := d
    simp only [dropCell] at h
    split at h
    · exact List.mem_cons_of_mem _ h
    · simp only [List.mem_cons] at h ⊢
      rcases h with h | h
      · exact .inl h
      · exact .inr (ih h)

theorem rising_cons (j : Nat) (u : BitVec w) (l : List (Nat × BitVec w)) :
    rising ((j, u) :: l) ↔ (∀ c ∈ l, j < c.1) ∧ rising l := by
  simp [rising]

theorem rising_putCell (i : Nat) (v : BitVec w) (l : List (Nat × BitVec w)) (h : rising l) :
    rising (putCell i v l) := by
  induction l with
  | nil => simp [putCell, rising]
  | cons c rest ih =>
    obtain ⟨j, u⟩ := c
    rw [rising_cons] at h
    simp only [putCell]
    split
    · rename_i hij
      rw [rising_cons, rising_cons]
      refine ⟨fun d hd => ?_, h⟩
      rcases List.mem_cons.1 hd with rfl | hd
      · exact hij
      · exact lt_trans hij (h.1 d hd)
    · split
      · rename_i hij; subst hij; rwa [rising_cons]
      · rename_i h1 h2
        rw [rising_cons]
        refine ⟨fun d hd => ?_, ih h.2⟩
        rcases mem_putCell hd with rfl | hd
        · simp only; omega
        · exact h.1 d hd

theorem rising_dropCell (i : Nat) (l : List (Nat × BitVec w)) (h : rising l) : rising (dropCell i l) := by
  induction l with
  | nil => exact h
  | cons c rest ih =>
    obtain ⟨j, u⟩ := c
    rw [rising_cons] at h
    simp only [dropCell]
    split
    · exact h.2
    · rw [rising_cons]
      exact ⟨fun d hd => h.1 d (mem_dropCell hd), ih h.2⟩

/-! ### The operations of the block's memories -/

@[simp] theorem Tag.ofCode_code (t : Tag) : Tag.ofCode t.code = t := by cases t <;> rfl

@[simp] theorem Memory.logRead_logWrite_same (m : Memory) (i : Nat) (t : Tag) :
    (m.logWrite i t).logRead i = some t := by
  simp [Memory.logWrite, Memory.logRead, findCell_putCell_same]

theorem Memory.logRead_logWrite_other (m : Memory) (i k : Nat) (t : Tag) (h : k ≠ i) :
    (m.logWrite i t).logRead k = m.logRead k := by
  simp [Memory.logWrite, Memory.logRead, findCell_putCell_other _ _ _ _ h]

@[simp] theorem Memory.fbufRead_logWrite (m : Memory) (i k : Nat) (t : Tag) :
    (m.logWrite i t).fbufRead k = m.fbufRead k := rfl

@[simp] theorem Memory.logRead_fbufWrite (m : Memory) (i k : Nat) (b : Byte) :
    (m.fbufWrite k b).logRead i = m.logRead i := rfl

@[simp] theorem Memory.logRead_fbufClear (m : Memory) (i : Nat) : m.fbufClear.logRead i = m.logRead i := rfl

@[simp] theorem Memory.fbufRead_fbufClear (m : Memory) (k : Nat) : m.fbufClear.fbufRead k = 0 := rfl

theorem Memory.fbufRead_fbufWrite_same (m : Memory) (k : Nat) (b : Byte) (h : rising m.fbuf) :
    (m.fbufWrite k b).fbufRead k = b := by
  simp only [Memory.fbufWrite, Memory.fbufRead]
  split
  · rename_i hb; subst hb; simp [findCell_dropCell_same _ _ h]
  · simp [findCell_putCell_same]

theorem Memory.fbufRead_fbufWrite_other (m : Memory) (i k : Nat) (b : Byte) (h : k ≠ i) :
    (m.fbufWrite i b).fbufRead k = m.fbufRead k := by
  simp only [Memory.fbufWrite, Memory.fbufRead]
  split
  · rw [findCell_dropCell_other _ _ _ h]
  · rw [findCell_putCell_other _ _ _ _ h]

/-- APPEND's write keeps the canonical form. -/
theorem Memory.wf_logWrite (m : Memory) (i : Nat) (t : Tag) (h : m.wf) : (m.logWrite i t).wf :=
  ⟨rising_putCell _ _ _ h.1, h.2.1, h.2.2⟩

/-- COLLECT's write keeps the canonical form. -/
theorem Memory.wf_fbufWrite (m : Memory) (k : Nat) (b : Byte) (h : m.wf) : (m.fbufWrite k b).wf := by
  refine ⟨h.1, ?_, ?_⟩
  · simp only [Memory.fbufWrite]
    split
    · exact rising_dropCell _ _ h.2.1
    · exact rising_putCell _ _ _ h.2.1
  · simp only [Memory.fbufWrite]
    split
    · exact fun c hc => h.2.2 c (mem_dropCell hc)
    · rename_i hb
      intro c hc
      rcases mem_putCell hc with rfl | hc
      · exact hb
      · exact h.2.2 c hc

/-- START and RST keep the canonical form. -/
theorem Memory.wf_fbufClear (m : Memory) (h : m.wf) : m.fbufClear.wf :=
  ⟨h.1, by simp [Memory.fbufClear, rising], by simp [Memory.fbufClear]⟩

end Sys2Proof.Machine
end

