-- ==== Sys2Proof/Laws/State.lean ====
section
/-! SUPPORT. For each update of the state, what each field is after it: one lemma per field per update, true by rfl,
so that no later proof unfolds a record update. -/

namespace Sys2Proof.Machine

open Sys2Proof

/-! ### State.begun -/

@[simp] theorem State.begun_cfg (s : State) : s.begun.cfg = s.cfg := rfl
@[simp] theorem State.begun_phase (s : State) : s.begun.phase = s.phase := rfl
@[simp] theorem State.begun_sub (s : State) : s.begun.sub = s.sub := rfl
@[simp] theorem State.begun_dwellCnt (s : State) : s.begun.dwellCnt = s.dwellCnt := rfl
@[simp] theorem State.begun_suppress (s : State) : s.begun.suppress = s.suppress := rfl
@[simp] theorem State.begun_eventsEn (s : State) : s.begun.eventsEn = s.eventsEn := rfl
@[simp] theorem State.begun_frameValid (s : State) : s.begun.frameValid = s.frameValid := rfl
@[simp] theorem State.begun_cap1 (s : State) : s.begun.cap1 = s.cap1 := rfl
@[simp] theorem State.begun_cap2 (s : State) : s.begun.cap2 = s.cap2 := rfl
@[simp] theorem State.begun_prim (s : State) : s.begun.prim = s.prim := rfl
@[simp] theorem State.begun_pwrL (s : State) : s.begun.pwrL = s.pwrL := rfl
@[simp] theorem State.begun_dirL (s : State) : s.begun.dirL = s.dirL := rfl
@[simp] theorem State.begun_pwrR (s : State) : s.begun.pwrR = s.pwrR := rfl
@[simp] theorem State.begun_dirR (s : State) : s.begun.dirR = s.dirR := rfl
@[simp] theorem State.begun_cursor (s : State) : s.begun.cursor = s.cursor := rfl
@[simp] theorem State.begun_ridx (s : State) : s.begun.ridx = s.ridx := rfl
@[simp] theorem State.begun_faState (s : State) : s.begun.faState = s.faState := rfl
@[simp] theorem State.begun_flen (s : State) : s.begun.flen = s.flen := rfl
@[simp] theorem State.begun_mem (s : State) : s.begun.mem = s.mem := rfl
@[simp] theorem State.begun_hb (s : State) : s.begun.hb = s.hb := rfl
@[simp] theorem State.begun_hbCnt (s : State) : s.begun.hbCnt = s.hbCnt := rfl
@[simp] theorem State.begun_fatalCode (s : State) : s.begun.fatalCode = s.fatalCode := rfl
@[simp] theorem State.begun_dispEvt (s : State) : s.begun.dispEvt = 0 := rfl
@[simp] theorem State.begun_input (s : State) : s.begun.input = s.input := rfl

/-! ### State.setPc -/

@[simp] theorem State.setPc_cfg (s : State) (ph : Phase) (sb : Sub) : (s.setPc ph sb).cfg = s.cfg := rfl
@[simp] theorem State.setPc_phase (s : State) (ph : Phase) (sb : Sub) : (s.setPc ph sb).phase = ph.code := rfl
@[simp] theorem State.setPc_sub (s : State) (ph : Phase) (sb : Sub) : (s.setPc ph sb).sub = sb.code := rfl
@[simp] theorem State.setPc_dwellCnt (s : State) (ph : Phase) (sb : Sub) : (s.setPc ph sb).dwellCnt = s.dwellCnt := rfl
@[simp] theorem State.setPc_suppress (s : State) (ph : Phase) (sb : Sub) : (s.setPc ph sb).suppress = s.suppress := rfl
@[simp] theorem State.setPc_eventsEn (s : State) (ph : Phase) (sb : Sub) : (s.setPc ph sb).eventsEn = s.eventsEn := rfl
@[simp] theorem State.setPc_frameValid (s : State) (ph : Phase) (sb : Sub) : (s.setPc ph sb).frameValid = s.frameValid := rfl
@[simp] theorem State.setPc_cap1 (s : State) (ph : Phase) (sb : Sub) : (s.setPc ph sb).cap1 = s.cap1 := rfl
@[simp] theorem State.setPc_cap2 (s : State) (ph : Phase) (sb : Sub) : (s.setPc ph sb).cap2 = s.cap2 := rfl
@[simp] theorem State.setPc_prim (s : State) (ph : Phase) (sb : Sub) : (s.setPc ph sb).prim = s.prim := rfl
@[simp] theorem State.setPc_pwrL (s : State) (ph : Phase) (sb : Sub) : (s.setPc ph sb).pwrL = s.pwrL := rfl
@[simp] theorem State.setPc_dirL (s : State) (ph : Phase) (sb : Sub) : (s.setPc ph sb).dirL = s.dirL := rfl
@[simp] theorem State.setPc_pwrR (s : State) (ph : Phase) (sb : Sub) : (s.setPc ph sb).pwrR = s.pwrR := rfl
@[simp] theorem State.setPc_dirR (s : State) (ph : Phase) (sb : Sub) : (s.setPc ph sb).dirR = s.dirR := rfl
@[simp] theorem State.setPc_cursor (s : State) (ph : Phase) (sb : Sub) : (s.setPc ph sb).cursor = s.cursor := rfl
@[simp] theorem State.setPc_ridx (s : State) (ph : Phase) (sb : Sub) : (s.setPc ph sb).ridx = s.ridx := rfl
@[simp] theorem State.setPc_faState (s : State) (ph : Phase) (sb : Sub) : (s.setPc ph sb).faState = s.faState := rfl
@[simp] theorem State.setPc_flen (s : State) (ph : Phase) (sb : Sub) : (s.setPc ph sb).flen = s.flen := rfl
@[simp] theorem State.setPc_mem (s : State) (ph : Phase) (sb : Sub) : (s.setPc ph sb).mem = s.mem := rfl
@[simp] theorem State.setPc_hb (s : State) (ph : Phase) (sb : Sub) : (s.setPc ph sb).hb = s.hb := rfl
@[simp] theorem State.setPc_hbCnt (s : State) (ph : Phase) (sb : Sub) : (s.setPc ph sb).hbCnt = s.hbCnt := rfl
@[simp] theorem State.setPc_fatalCode (s : State) (ph : Phase) (sb : Sub) : (s.setPc ph sb).fatalCode = s.fatalCode := rfl
@[simp] theorem State.setPc_dispEvt (s : State) (ph : Phase) (sb : Sub) : (s.setPc ph sb).dispEvt = s.dispEvt := rfl
@[simp] theorem State.setPc_input (s : State) (ph : Phase) (sb : Sub) : (s.setPc ph sb).input = s.input := rfl

/-! ### emit -/

@[simp] theorem emit_cfg (e : BitVec 3) (s : State) : (emit e s).cfg = s.cfg := rfl
@[simp] theorem emit_phase (e : BitVec 3) (s : State) : (emit e s).phase = s.phase := rfl
@[simp] theorem emit_sub (e : BitVec 3) (s : State) : (emit e s).sub = s.sub := rfl
@[simp] theorem emit_dwellCnt (e : BitVec 3) (s : State) : (emit e s).dwellCnt = s.dwellCnt := rfl
@[simp] theorem emit_suppress (e : BitVec 3) (s : State) : (emit e s).suppress = s.suppress := rfl
@[simp] theorem emit_eventsEn (e : BitVec 3) (s : State) : (emit e s).eventsEn = s.eventsEn := rfl
@[simp] theorem emit_frameValid (e : BitVec 3) (s : State) : (emit e s).frameValid = s.frameValid := rfl
@[simp] theorem emit_cap1 (e : BitVec 3) (s : State) : (emit e s).cap1 = s.cap1 := rfl
@[simp] theorem emit_cap2 (e : BitVec 3) (s : State) : (emit e s).cap2 = s.cap2 := rfl
@[simp] theorem emit_prim (e : BitVec 3) (s : State) : (emit e s).prim = s.prim := rfl
@[simp] theorem emit_pwrL (e : BitVec 3) (s : State) : (emit e s).pwrL = s.pwrL := rfl
@[simp] theorem emit_dirL (e : BitVec 3) (s : State) : (emit e s).dirL = s.dirL := rfl
@[simp] theorem emit_pwrR (e : BitVec 3) (s : State) : (emit e s).pwrR = s.pwrR := rfl
@[simp] theorem emit_dirR (e : BitVec 3) (s : State) : (emit e s).dirR = s.dirR := rfl
@[simp] theorem emit_cursor (e : BitVec 3) (s : State) : (emit e s).cursor = s.cursor := rfl
@[simp] theorem emit_ridx (e : BitVec 3) (s : State) : (emit e s).ridx = s.ridx := rfl
@[simp] theorem emit_faState (e : BitVec 3) (s : State) : (emit e s).faState = s.faState := rfl
@[simp] theorem emit_flen (e : BitVec 3) (s : State) : (emit e s).flen = s.flen := rfl
@[simp] theorem emit_mem (e : BitVec 3) (s : State) : (emit e s).mem = s.mem := rfl
@[simp] theorem emit_hb (e : BitVec 3) (s : State) : (emit e s).hb = s.hb := rfl
@[simp] theorem emit_hbCnt (e : BitVec 3) (s : State) : (emit e s).hbCnt = s.hbCnt := rfl
@[simp] theorem emit_fatalCode (e : BitVec 3) (s : State) : (emit e s).fatalCode = s.fatalCode := rfl
@[simp] theorem emit_dispEvt (e : BitVec 3) (s : State) : (emit e s).dispEvt = s.dispEvt ||| e := rfl
@[simp] theorem emit_input (e : BitVec 3) (s : State) : (emit e s).input = s.input := rfl

/-! ### driveHalt -/

@[simp] theorem driveHalt_cfg (s : State) : (driveHalt s).cfg = s.cfg := rfl
@[simp] theorem driveHalt_phase (s : State) : (driveHalt s).phase = s.phase := rfl
@[simp] theorem driveHalt_sub (s : State) : (driveHalt s).sub = s.sub := rfl
@[simp] theorem driveHalt_dwellCnt (s : State) : (driveHalt s).dwellCnt = s.dwellCnt := rfl
@[simp] theorem driveHalt_suppress (s : State) : (driveHalt s).suppress = s.suppress := rfl
@[simp] theorem driveHalt_eventsEn (s : State) : (driveHalt s).eventsEn = s.eventsEn := rfl
@[simp] theorem driveHalt_frameValid (s : State) : (driveHalt s).frameValid = s.frameValid := rfl
@[simp] theorem driveHalt_cap1 (s : State) : (driveHalt s).cap1 = s.cap1 := rfl
@[simp] theorem driveHalt_cap2 (s : State) : (driveHalt s).cap2 = s.cap2 := rfl
@[simp] theorem driveHalt_prim (s : State) : (driveHalt s).prim = primHalt := rfl
@[simp] theorem driveHalt_pwrL (s : State) : (driveHalt s).pwrL = 0 := rfl
@[simp] theorem driveHalt_dirL (s : State) : (driveHalt s).dirL = false := rfl
@[simp] theorem driveHalt_pwrR (s : State) : (driveHalt s).pwrR = 0 := rfl
@[simp] theorem driveHalt_dirR (s : State) : (driveHalt s).dirR = false := rfl
@[simp] theorem driveHalt_cursor (s : State) : (driveHalt s).cursor = s.cursor := rfl
@[simp] theorem driveHalt_ridx (s : State) : (driveHalt s).ridx = s.ridx := rfl
@[simp] theorem driveHalt_faState (s : State) : (driveHalt s).faState = s.faState := rfl
@[simp] theorem driveHalt_flen (s : State) : (driveHalt s).flen = s.flen := rfl
@[simp] theorem driveHalt_mem (s : State) : (driveHalt s).mem = s.mem := rfl
@[simp] theorem driveHalt_hb (s : State) : (driveHalt s).hb = s.hb := rfl
@[simp] theorem driveHalt_hbCnt (s : State) : (driveHalt s).hbCnt = s.hbCnt := rfl
@[simp] theorem driveHalt_fatalCode (s : State) : (driveHalt s).fatalCode = s.fatalCode := rfl
@[simp] theorem driveHalt_dispEvt (s : State) : (driveHalt s).dispEvt = s.dispEvt := rfl
@[simp] theorem driveHalt_input (s : State) : (driveHalt s).input = s.input := rfl

/-! ### fatalEntry -/

@[simp] theorem fatalEntry_cfg (c : FatalCode) (s : State) : (fatalEntry c s).cfg = s.cfg := rfl
@[simp] theorem fatalEntry_phase (c : FatalCode) (s : State) : (fatalEntry c s).phase = Phase.halted.code := rfl
@[simp] theorem fatalEntry_sub (c : FatalCode) (s : State) : (fatalEntry c s).sub = Sub.decide.code := rfl
@[simp] theorem fatalEntry_dwellCnt (c : FatalCode) (s : State) : (fatalEntry c s).dwellCnt = 0 := rfl
@[simp] theorem fatalEntry_suppress (c : FatalCode) (s : State) : (fatalEntry c s).suppress = s.suppress := rfl
@[simp] theorem fatalEntry_eventsEn (c : FatalCode) (s : State) : (fatalEntry c s).eventsEn = false := rfl
@[simp] theorem fatalEntry_frameValid (c : FatalCode) (s : State) : (fatalEntry c s).frameValid = s.frameValid := rfl
@[simp] theorem fatalEntry_cap1 (c : FatalCode) (s : State) : (fatalEntry c s).cap1 = s.cap1 := rfl
@[simp] theorem fatalEntry_cap2 (c : FatalCode) (s : State) : (fatalEntry c s).cap2 = s.cap2 := rfl
@[simp] theorem fatalEntry_prim (c : FatalCode) (s : State) : (fatalEntry c s).prim = primHalt := rfl
@[simp] theorem fatalEntry_pwrL (c : FatalCode) (s : State) : (fatalEntry c s).pwrL = 0 := rfl
@[simp] theorem fatalEntry_dirL (c : FatalCode) (s : State) : (fatalEntry c s).dirL = false := rfl
@[simp] theorem fatalEntry_pwrR (c : FatalCode) (s : State) : (fatalEntry c s).pwrR = 0 := rfl
@[simp] theorem fatalEntry_dirR (c : FatalCode) (s : State) : (fatalEntry c s).dirR = false := rfl
@[simp] theorem fatalEntry_cursor (c : FatalCode) (s : State) : (fatalEntry c s).cursor = s.cursor := rfl
@[simp] theorem fatalEntry_ridx (c : FatalCode) (s : State) : (fatalEntry c s).ridx = s.ridx := rfl
@[simp] theorem fatalEntry_faState (c : FatalCode) (s : State) : (fatalEntry c s).faState = s.faState := rfl
@[simp] theorem fatalEntry_flen (c : FatalCode) (s : State) : (fatalEntry c s).flen = s.flen := rfl
@[simp] theorem fatalEntry_mem (c : FatalCode) (s : State) : (fatalEntry c s).mem = s.mem := rfl
@[simp] theorem fatalEntry_hb (c : FatalCode) (s : State) : (fatalEntry c s).hb = s.hb := rfl
@[simp] theorem fatalEntry_hbCnt (c : FatalCode) (s : State) : (fatalEntry c s).hbCnt = s.hbCnt := rfl
@[simp] theorem fatalEntry_fatalCode (c : FatalCode) (s : State) : (fatalEntry c s).fatalCode = c.code := rfl
@[simp] theorem fatalEntry_dispEvt (c : FatalCode) (s : State) : (fatalEntry c s).dispEvt = s.dispEvt ||| strobeFatal := rfl
@[simp] theorem fatalEntry_input (c : FatalCode) (s : State) : (fatalEntry c s).input = s.input := rfl

/-! ### issue -/

@[simp] theorem issue_cfg (p : RomPrim) (s : State) : (issue p s).cfg = s.cfg := rfl
@[simp] theorem issue_phase (p : RomPrim) (s : State) : (issue p s).phase = s.phase := rfl
@[simp] theorem issue_sub (p : RomPrim) (s : State) : (issue p s).sub = s.sub := rfl
@[simp] theorem issue_dwellCnt (p : RomPrim) (s : State) : (issue p s).dwellCnt = s.dwellCnt := rfl
@[simp] theorem issue_suppress (p : RomPrim) (s : State) : (issue p s).suppress = s.suppress := rfl
@[simp] theorem issue_eventsEn (p : RomPrim) (s : State) : (issue p s).eventsEn = s.eventsEn := rfl
@[simp] theorem issue_frameValid (p : RomPrim) (s : State) : (issue p s).frameValid = s.frameValid := rfl
@[simp] theorem issue_cap1 (p : RomPrim) (s : State) : (issue p s).cap1 = s.cap1 := rfl
@[simp] theorem issue_cap2 (p : RomPrim) (s : State) : (issue p s).cap2 = s.cap2 := rfl
@[simp] theorem issue_prim (p : RomPrim) (s : State) : (issue p s).prim = p.code := rfl
@[simp] theorem issue_pwrL (p : RomPrim) (s : State) : (issue p s).pwrL = (romRow s.cfg.rom p).left.power := rfl
@[simp] theorem issue_dirL (p : RomPrim) (s : State) : (issue p s).dirL = (romRow s.cfg.rom p).left.dir := rfl
@[simp] theorem issue_pwrR (p : RomPrim) (s : State) : (issue p s).pwrR = (romRow s.cfg.rom p).right.power := rfl
@[simp] theorem issue_dirR (p : RomPrim) (s : State) : (issue p s).dirR = (romRow s.cfg.rom p).right.dir := rfl
@[simp] theorem issue_cursor (p : RomPrim) (s : State) : (issue p s).cursor = s.cursor := rfl
@[simp] theorem issue_ridx (p : RomPrim) (s : State) : (issue p s).ridx = s.ridx := rfl
@[simp] theorem issue_faState (p : RomPrim) (s : State) : (issue p s).faState = s.faState := rfl
@[simp] theorem issue_flen (p : RomPrim) (s : State) : (issue p s).flen = s.flen := rfl
@[simp] theorem issue_mem (p : RomPrim) (s : State) : (issue p s).mem = s.mem := rfl
@[simp] theorem issue_hb (p : RomPrim) (s : State) : (issue p s).hb = s.hb := rfl
@[simp] theorem issue_hbCnt (p : RomPrim) (s : State) : (issue p s).hbCnt = s.hbCnt := rfl
@[simp] theorem issue_fatalCode (p : RomPrim) (s : State) : (issue p s).fatalCode = s.fatalCode := rfl
@[simp] theorem issue_dispEvt (p : RomPrim) (s : State) : (issue p s).dispEvt = s.dispEvt := rfl
@[simp] theorem issue_input (p : RomPrim) (s : State) : (issue p s).input = s.input := rfl

/-! ### hold -/

@[simp] theorem hold_cfg (p : RomPrim) (s : State) : (hold p s).cfg = s.cfg := rfl
@[simp] theorem hold_phase (p : RomPrim) (s : State) : (hold p s).phase = s.phase := rfl
@[simp] theorem hold_sub (p : RomPrim) (s : State) : (hold p s).sub = Sub.dwell.code := rfl
@[simp] theorem hold_dwellCnt (p : RomPrim) (s : State) : (hold p s).dwellCnt = dwellTicks s.cfg.toParams p := rfl
@[simp] theorem hold_suppress (p : RomPrim) (s : State) : (hold p s).suppress = s.suppress := rfl
@[simp] theorem hold_eventsEn (p : RomPrim) (s : State) : (hold p s).eventsEn = s.eventsEn := rfl
@[simp] theorem hold_frameValid (p : RomPrim) (s : State) : (hold p s).frameValid = s.frameValid := rfl
@[simp] theorem hold_cap1 (p : RomPrim) (s : State) : (hold p s).cap1 = s.cap1 := rfl
@[simp] theorem hold_cap2 (p : RomPrim) (s : State) : (hold p s).cap2 = s.cap2 := rfl
@[simp] theorem hold_prim (p : RomPrim) (s : State) : (hold p s).prim = s.prim := rfl
@[simp] theorem hold_pwrL (p : RomPrim) (s : State) : (hold p s).pwrL = s.pwrL := rfl
@[simp] theorem hold_dirL (p : RomPrim) (s : State) : (hold p s).dirL = s.dirL := rfl
@[simp] theorem hold_pwrR (p : RomPrim) (s : State) : (hold p s).pwrR = s.pwrR := rfl
@[simp] theorem hold_dirR (p : RomPrim) (s : State) : (hold p s).dirR = s.dirR := rfl
@[simp] theorem hold_cursor (p : RomPrim) (s : State) : (hold p s).cursor = s.cursor := rfl
@[simp] theorem hold_ridx (p : RomPrim) (s : State) : (hold p s).ridx = s.ridx := rfl
@[simp] theorem hold_faState (p : RomPrim) (s : State) : (hold p s).faState = s.faState := rfl
@[simp] theorem hold_flen (p : RomPrim) (s : State) : (hold p s).flen = s.flen := rfl
@[simp] theorem hold_mem (p : RomPrim) (s : State) : (hold p s).mem = s.mem := rfl
@[simp] theorem hold_hb (p : RomPrim) (s : State) : (hold p s).hb = s.hb := rfl
@[simp] theorem hold_hbCnt (p : RomPrim) (s : State) : (hold p s).hbCnt = s.hbCnt := rfl
@[simp] theorem hold_fatalCode (p : RomPrim) (s : State) : (hold p s).fatalCode = s.fatalCode := rfl
@[simp] theorem hold_dispEvt (p : RomPrim) (s : State) : (hold p s).dispEvt = s.dispEvt := rfl
@[simp] theorem hold_input (p : RomPrim) (s : State) : (hold p s).input = s.input := rfl

/-! ### startStop -/

@[simp] theorem startStop_cfg (s : State) : (startStop s).cfg = s.cfg := rfl
@[simp] theorem startStop_phase (s : State) : (startStop s).phase = s.phase := rfl
@[simp] theorem startStop_sub (s : State) : (startStop s).sub = Sub.ramp.code := rfl
@[simp] theorem startStop_dwellCnt (s : State) : (startStop s).dwellCnt = s.dwellCnt := rfl
@[simp] theorem startStop_suppress (s : State) : (startStop s).suppress = s.suppress := rfl
@[simp] theorem startStop_eventsEn (s : State) : (startStop s).eventsEn = s.eventsEn := rfl
@[simp] theorem startStop_frameValid (s : State) : (startStop s).frameValid = s.frameValid := rfl
@[simp] theorem startStop_cap1 (s : State) : (startStop s).cap1 = s.cap1 := rfl
@[simp] theorem startStop_cap2 (s : State) : (startStop s).cap2 = s.cap2 := rfl
@[simp] theorem startStop_prim (s : State) : (startStop s).prim = primStop := rfl
@[simp] theorem startStop_pwrL (s : State) : (startStop s).pwrL = s.pwrL := rfl
@[simp] theorem startStop_dirL (s : State) : (startStop s).dirL = s.dirL := rfl
@[simp] theorem startStop_pwrR (s : State) : (startStop s).pwrR = s.pwrR := rfl
@[simp] theorem startStop_dirR (s : State) : (startStop s).dirR = s.dirR := rfl
@[simp] theorem startStop_cursor (s : State) : (startStop s).cursor = s.cursor := rfl
@[simp] theorem startStop_ridx (s : State) : (startStop s).ridx = s.ridx := rfl
@[simp] theorem startStop_faState (s : State) : (startStop s).faState = s.faState := rfl
@[simp] theorem startStop_flen (s : State) : (startStop s).flen = s.flen := rfl
@[simp] theorem startStop_mem (s : State) : (startStop s).mem = s.mem := rfl
@[simp] theorem startStop_hb (s : State) : (startStop s).hb = s.hb := rfl
@[simp] theorem startStop_hbCnt (s : State) : (startStop s).hbCnt = s.hbCnt := rfl
@[simp] theorem startStop_fatalCode (s : State) : (startStop s).fatalCode = s.fatalCode := rfl
@[simp] theorem startStop_dispEvt (s : State) : (startStop s).dispEvt = s.dispEvt := rfl
@[simp] theorem startStop_input (s : State) : (startStop s).input = s.input := rfl

/-! ### rampPowers -/

@[simp] theorem rampPowers_cfg (s : State) : (rampPowers s).cfg = s.cfg := rfl
@[simp] theorem rampPowers_phase (s : State) : (rampPowers s).phase = s.phase := rfl
@[simp] theorem rampPowers_sub (s : State) : (rampPowers s).sub = s.sub := rfl
@[simp] theorem rampPowers_dwellCnt (s : State) : (rampPowers s).dwellCnt = s.dwellCnt := rfl
@[simp] theorem rampPowers_suppress (s : State) : (rampPowers s).suppress = s.suppress := rfl
@[simp] theorem rampPowers_eventsEn (s : State) : (rampPowers s).eventsEn = s.eventsEn := rfl
@[simp] theorem rampPowers_frameValid (s : State) : (rampPowers s).frameValid = s.frameValid := rfl
@[simp] theorem rampPowers_cap1 (s : State) : (rampPowers s).cap1 = s.cap1 := rfl
@[simp] theorem rampPowers_cap2 (s : State) : (rampPowers s).cap2 = s.cap2 := rfl
@[simp] theorem rampPowers_prim (s : State) : (rampPowers s).prim = s.prim := rfl
@[simp] theorem rampPowers_pwrL (s : State) : (rampPowers s).pwrL = satDec s.pwrL := rfl
@[simp] theorem rampPowers_dirL (s : State) : (rampPowers s).dirL = s.dirL := rfl
@[simp] theorem rampPowers_pwrR (s : State) : (rampPowers s).pwrR = satDec s.pwrR := rfl
@[simp] theorem rampPowers_dirR (s : State) : (rampPowers s).dirR = s.dirR := rfl
@[simp] theorem rampPowers_cursor (s : State) : (rampPowers s).cursor = s.cursor := rfl
@[simp] theorem rampPowers_ridx (s : State) : (rampPowers s).ridx = s.ridx := rfl
@[simp] theorem rampPowers_faState (s : State) : (rampPowers s).faState = s.faState := rfl
@[simp] theorem rampPowers_flen (s : State) : (rampPowers s).flen = s.flen := rfl
@[simp] theorem rampPowers_mem (s : State) : (rampPowers s).mem = s.mem := rfl
@[simp] theorem rampPowers_hb (s : State) : (rampPowers s).hb = s.hb := rfl
@[simp] theorem rampPowers_hbCnt (s : State) : (rampPowers s).hbCnt = s.hbCnt := rfl
@[simp] theorem rampPowers_fatalCode (s : State) : (rampPowers s).fatalCode = s.fatalCode := rfl
@[simp] theorem rampPowers_dispEvt (s : State) : (rampPowers s).dispEvt = s.dispEvt := rfl
@[simp] theorem rampPowers_input (s : State) : (rampPowers s).input = s.input := rfl

/-! ### accept -/

@[simp] theorem accept_cfg (s : State) : (accept s).cfg = s.cfg := rfl
@[simp] theorem accept_phase (s : State) : (accept s).phase = s.phase := rfl
@[simp] theorem accept_sub (s : State) : (accept s).sub = s.sub := rfl
@[simp] theorem accept_dwellCnt (s : State) : (accept s).dwellCnt = s.dwellCnt := rfl
@[simp] theorem accept_suppress (s : State) : (accept s).suppress = s.suppress := rfl
@[simp] theorem accept_eventsEn (s : State) : (accept s).eventsEn = s.eventsEn := rfl
@[simp] theorem accept_frameValid (s : State) : (accept s).frameValid = true := rfl
@[simp] theorem accept_cap1 (s : State) : (accept s).cap1 = s.cap1 := rfl
@[simp] theorem accept_cap2 (s : State) : (accept s).cap2 = s.cap2 := rfl
@[simp] theorem accept_prim (s : State) : (accept s).prim = s.prim := rfl
@[simp] theorem accept_pwrL (s : State) : (accept s).pwrL = s.pwrL := rfl
@[simp] theorem accept_dirL (s : State) : (accept s).dirL = s.dirL := rfl
@[simp] theorem accept_pwrR (s : State) : (accept s).pwrR = s.pwrR := rfl
@[simp] theorem accept_dirR (s : State) : (accept s).dirR = s.dirR := rfl
@[simp] theorem accept_cursor (s : State) : (accept s).cursor = s.cursor := rfl
@[simp] theorem accept_ridx (s : State) : (accept s).ridx = s.ridx := rfl
@[simp] theorem accept_faState (s : State) : (accept s).faState = FaState.accepted.code := rfl
@[simp] theorem accept_flen (s : State) : (accept s).flen = s.flen := rfl
@[simp] theorem accept_mem (s : State) : (accept s).mem = s.mem := rfl
@[simp] theorem accept_hb (s : State) : (accept s).hb = s.hb := rfl
@[simp] theorem accept_hbCnt (s : State) : (accept s).hbCnt = s.hbCnt := rfl
@[simp] theorem accept_fatalCode (s : State) : (accept s).fatalCode = s.fatalCode := rfl
@[simp] theorem accept_dispEvt (s : State) : (accept s).dispEvt = s.dispEvt := rfl
@[simp] theorem accept_input (s : State) : (accept s).input = s.input := rfl

/-! ### reject -/

@[simp] theorem reject_cfg (s : State) : (reject s).cfg = s.cfg := rfl
@[simp] theorem reject_phase (s : State) : (reject s).phase = s.phase := rfl
@[simp] theorem reject_sub (s : State) : (reject s).sub = s.sub := rfl
@[simp] theorem reject_dwellCnt (s : State) : (reject s).dwellCnt = s.dwellCnt := rfl
@[simp] theorem reject_suppress (s : State) : (reject s).suppress = s.suppress := rfl
@[simp] theorem reject_eventsEn (s : State) : (reject s).eventsEn = s.eventsEn := rfl
@[simp] theorem reject_frameValid (s : State) : (reject s).frameValid = s.frameValid := rfl
@[simp] theorem reject_cap1 (s : State) : (reject s).cap1 = s.cap1 := rfl
@[simp] theorem reject_cap2 (s : State) : (reject s).cap2 = s.cap2 := rfl
@[simp] theorem reject_prim (s : State) : (reject s).prim = s.prim := rfl
@[simp] theorem reject_pwrL (s : State) : (reject s).pwrL = s.pwrL := rfl
@[simp] theorem reject_dirL (s : State) : (reject s).dirL = s.dirL := rfl
@[simp] theorem reject_pwrR (s : State) : (reject s).pwrR = s.pwrR := rfl
@[simp] theorem reject_dirR (s : State) : (reject s).dirR = s.dirR := rfl
@[simp] theorem reject_cursor (s : State) : (reject s).cursor = s.cursor := rfl
@[simp] theorem reject_ridx (s : State) : (reject s).ridx = s.ridx := rfl
@[simp] theorem reject_faState (s : State) : (reject s).faState = FaState.idle.code := rfl
@[simp] theorem reject_flen (s : State) : (reject s).flen = 0 := rfl
@[simp] theorem reject_mem (s : State) : (reject s).mem = s.mem := rfl
@[simp] theorem reject_hb (s : State) : (reject s).hb = s.hb := rfl
@[simp] theorem reject_hbCnt (s : State) : (reject s).hbCnt = s.hbCnt := rfl
@[simp] theorem reject_fatalCode (s : State) : (reject s).fatalCode = s.fatalCode := rfl
@[simp] theorem reject_dispEvt (s : State) : (reject s).dispEvt = s.dispEvt ||| strobeReject := rfl
@[simp] theorem reject_input (s : State) : (reject s).input = s.input := rfl

/-! ### rxStartBody -/

@[simp] theorem rxStartBody_cfg (s : State) : (rxStartBody s).cfg = s.cfg := rfl
@[simp] theorem rxStartBody_phase (s : State) : (rxStartBody s).phase = s.phase := rfl
@[simp] theorem rxStartBody_sub (s : State) : (rxStartBody s).sub = s.sub := rfl
@[simp] theorem rxStartBody_dwellCnt (s : State) : (rxStartBody s).dwellCnt = s.dwellCnt := rfl
@[simp] theorem rxStartBody_suppress (s : State) : (rxStartBody s).suppress = s.suppress := rfl
@[simp] theorem rxStartBody_eventsEn (s : State) : (rxStartBody s).eventsEn = s.eventsEn := rfl
@[simp] theorem rxStartBody_frameValid (s : State) : (rxStartBody s).frameValid = s.frameValid := rfl
@[simp] theorem rxStartBody_cap1 (s : State) : (rxStartBody s).cap1 = s.cap1 := rfl
@[simp] theorem rxStartBody_cap2 (s : State) : (rxStartBody s).cap2 = s.cap2 := rfl
@[simp] theorem rxStartBody_prim (s : State) : (rxStartBody s).prim = s.prim := rfl
@[simp] theorem rxStartBody_pwrL (s : State) : (rxStartBody s).pwrL = s.pwrL := rfl
@[simp] theorem rxStartBody_dirL (s : State) : (rxStartBody s).dirL = s.dirL := rfl
@[simp] theorem rxStartBody_pwrR (s : State) : (rxStartBody s).pwrR = s.pwrR := rfl
@[simp] theorem rxStartBody_dirR (s : State) : (rxStartBody s).dirR = s.dirR := rfl
@[simp] theorem rxStartBody_cursor (s : State) : (rxStartBody s).cursor = s.cursor := rfl
@[simp] theorem rxStartBody_ridx (s : State) : (rxStartBody s).ridx = s.ridx := rfl
@[simp] theorem rxStartBody_faState (s : State) : (rxStartBody s).faState = FaState.collecting.code := rfl
@[simp] theorem rxStartBody_flen (s : State) : (rxStartBody s).flen = 0 := rfl
@[simp] theorem rxStartBody_mem (s : State) : (rxStartBody s).mem = s.mem.fbufClear := rfl
@[simp] theorem rxStartBody_hb (s : State) : (rxStartBody s).hb = s.hb := rfl
@[simp] theorem rxStartBody_hbCnt (s : State) : (rxStartBody s).hbCnt = s.hbCnt := rfl
@[simp] theorem rxStartBody_fatalCode (s : State) : (rxStartBody s).fatalCode = s.fatalCode := rfl
@[simp] theorem rxStartBody_dispEvt (s : State) : (rxStartBody s).dispEvt = s.dispEvt := rfl
@[simp] theorem rxStartBody_input (s : State) : (rxStartBody s).input = s.input := rfl

/-! ### rxCollectBody -/

@[simp] theorem rxCollectBody_cfg (b : Byte) (s : State) : (rxCollectBody b s).cfg = s.cfg := rfl
@[simp] theorem rxCollectBody_phase (b : Byte) (s : State) : (rxCollectBody b s).phase = s.phase := rfl
@[simp] theorem rxCollectBody_sub (b : Byte) (s : State) : (rxCollectBody b s).sub = s.sub := rfl
@[simp] theorem rxCollectBody_dwellCnt (b : Byte) (s : State) : (rxCollectBody b s).dwellCnt = s.dwellCnt := rfl
@[simp] theorem rxCollectBody_suppress (b : Byte) (s : State) : (rxCollectBody b s).suppress = s.suppress := rfl
@[simp] theorem rxCollectBody_eventsEn (b : Byte) (s : State) : (rxCollectBody b s).eventsEn = s.eventsEn := rfl
@[simp] theorem rxCollectBody_frameValid (b : Byte) (s : State) : (rxCollectBody b s).frameValid = s.frameValid := rfl
@[simp] theorem rxCollectBody_cap1 (b : Byte) (s : State) : (rxCollectBody b s).cap1 = s.cap1 := rfl
@[simp] theorem rxCollectBody_cap2 (b : Byte) (s : State) : (rxCollectBody b s).cap2 = s.cap2 := rfl
@[simp] theorem rxCollectBody_prim (b : Byte) (s : State) : (rxCollectBody b s).prim = s.prim := rfl
@[simp] theorem rxCollectBody_pwrL (b : Byte) (s : State) : (rxCollectBody b s).pwrL = s.pwrL := rfl
@[simp] theorem rxCollectBody_dirL (b : Byte) (s : State) : (rxCollectBody b s).dirL = s.dirL := rfl
@[simp] theorem rxCollectBody_pwrR (b : Byte) (s : State) : (rxCollectBody b s).pwrR = s.pwrR := rfl
@[simp] theorem rxCollectBody_dirR (b : Byte) (s : State) : (rxCollectBody b s).dirR = s.dirR := rfl
@[simp] theorem rxCollectBody_cursor (b : Byte) (s : State) : (rxCollectBody b s).cursor = s.cursor := rfl
@[simp] theorem rxCollectBody_ridx (b : Byte) (s : State) : (rxCollectBody b s).ridx = s.ridx := rfl
@[simp] theorem rxCollectBody_faState (b : Byte) (s : State) : (rxCollectBody b s).faState = s.faState := rfl
@[simp] theorem rxCollectBody_flen (b : Byte) (s : State) : (rxCollectBody b s).flen = s.flen + 1 := rfl
@[simp] theorem rxCollectBody_mem (b : Byte) (s : State) : (rxCollectBody b s).mem = s.mem.fbufWrite s.flen b := rfl
@[simp] theorem rxCollectBody_hb (b : Byte) (s : State) : (rxCollectBody b s).hb = s.hb := rfl
@[simp] theorem rxCollectBody_hbCnt (b : Byte) (s : State) : (rxCollectBody b s).hbCnt = s.hbCnt := rfl
@[simp] theorem rxCollectBody_fatalCode (b : Byte) (s : State) : (rxCollectBody b s).fatalCode = s.fatalCode := rfl
@[simp] theorem rxCollectBody_dispEvt (b : Byte) (s : State) : (rxCollectBody b s).dispEvt = s.dispEvt := rfl
@[simp] theorem rxCollectBody_input (b : Byte) (s : State) : (rxCollectBody b s).input = s.input := rfl

/-! ### arrive -/

@[simp] theorem arrive_cfg (s : State) : (arrive s).cfg = s.cfg := rfl
@[simp] theorem arrive_phase (s : State) : (arrive s).phase = Phase.arrived.code := rfl
@[simp] theorem arrive_sub (s : State) : (arrive s).sub = Sub.ramp.code := rfl
@[simp] theorem arrive_dwellCnt (s : State) : (arrive s).dwellCnt = s.dwellCnt := rfl
@[simp] theorem arrive_suppress (s : State) : (arrive s).suppress = s.suppress := rfl
@[simp] theorem arrive_eventsEn (s : State) : (arrive s).eventsEn = false := rfl
@[simp] theorem arrive_frameValid (s : State) : (arrive s).frameValid = s.frameValid := rfl
@[simp] theorem arrive_cap1 (s : State) : (arrive s).cap1 = s.cap1 := rfl
@[simp] theorem arrive_cap2 (s : State) : (arrive s).cap2 = s.cap2 := rfl
@[simp] theorem arrive_prim (s : State) : (arrive s).prim = primStop := rfl
@[simp] theorem arrive_pwrL (s : State) : (arrive s).pwrL = s.pwrL := rfl
@[simp] theorem arrive_dirL (s : State) : (arrive s).dirL = s.dirL := rfl
@[simp] theorem arrive_pwrR (s : State) : (arrive s).pwrR = s.pwrR := rfl
@[simp] theorem arrive_dirR (s : State) : (arrive s).dirR = s.dirR := rfl
@[simp] theorem arrive_cursor (s : State) : (arrive s).cursor = s.cursor := rfl
@[simp] theorem arrive_ridx (s : State) : (arrive s).ridx = s.cursor := rfl
@[simp] theorem arrive_faState (s : State) : (arrive s).faState = s.faState := rfl
@[simp] theorem arrive_flen (s : State) : (arrive s).flen = s.flen := rfl
@[simp] theorem arrive_mem (s : State) : (arrive s).mem = s.mem := rfl
@[simp] theorem arrive_hb (s : State) : (arrive s).hb = s.hb := rfl
@[simp] theorem arrive_hbCnt (s : State) : (arrive s).hbCnt = s.hbCnt := rfl
@[simp] theorem arrive_fatalCode (s : State) : (arrive s).fatalCode = s.fatalCode := rfl
@[simp] theorem arrive_dispEvt (s : State) : (arrive s).dispEvt = s.dispEvt := rfl
@[simp] theorem arrive_input (s : State) : (arrive s).input = s.input := rfl

/-! ### resetState -/

@[simp] theorem resetState_cfg (s : State) : (resetState s).cfg = s.cfg := rfl
@[simp] theorem resetState_phase (s : State) : (resetState s).phase = Phase.searching.code := rfl
@[simp] theorem resetState_sub (s : State) : (resetState s).sub = Sub.decide.code := rfl
@[simp] theorem resetState_dwellCnt (s : State) : (resetState s).dwellCnt = 0 := rfl
@[simp] theorem resetState_suppress (s : State) : (resetState s).suppress = true := rfl
@[simp] theorem resetState_eventsEn (s : State) : (resetState s).eventsEn = true := rfl
@[simp] theorem resetState_frameValid (s : State) : (resetState s).frameValid = false := rfl
@[simp] theorem resetState_cap1 (s : State) : (resetState s).cap1 = 0 := rfl
@[simp] theorem resetState_cap2 (s : State) : (resetState s).cap2 = 0 := rfl
@[simp] theorem resetState_prim (s : State) : (resetState s).prim = primStop := rfl
@[simp] theorem resetState_pwrL (s : State) : (resetState s).pwrL = 0 := rfl
@[simp] theorem resetState_dirL (s : State) : (resetState s).dirL = false := rfl
@[simp] theorem resetState_pwrR (s : State) : (resetState s).pwrR = 0 := rfl
@[simp] theorem resetState_dirR (s : State) : (resetState s).dirR = false := rfl
@[simp] theorem resetState_cursor (s : State) : (resetState s).cursor = 0 := rfl
@[simp] theorem resetState_ridx (s : State) : (resetState s).ridx = 0 := rfl
@[simp] theorem resetState_faState (s : State) : (resetState s).faState = FaState.idle.code := rfl
@[simp] theorem resetState_flen (s : State) : (resetState s).flen = 0 := rfl
@[simp] theorem resetState_mem (s : State) : (resetState s).mem = s.mem.fbufClear := rfl
@[simp] theorem resetState_hb (s : State) : (resetState s).hb = false := rfl
@[simp] theorem resetState_hbCnt (s : State) : (resetState s).hbCnt = 0 := rfl
@[simp] theorem resetState_fatalCode (s : State) : (resetState s).fatalCode = 0 := rfl
@[simp] theorem resetState_dispEvt (s : State) : (resetState s).dispEvt = 0 := rfl
@[simp] theorem resetState_input (s : State) : (resetState s).input = s.input := rfl

/-! ### State.writeCapture -/

@[simp] theorem State.writeCapture_cfg (s : State) (r : Receiver) (v : Byte) : (s.writeCapture r v).cfg = s.cfg := by cases r <;> rfl
@[simp] theorem State.writeCapture_phase (s : State) (r : Receiver) (v : Byte) : (s.writeCapture r v).phase = s.phase := by cases r <;> rfl
@[simp] theorem State.writeCapture_sub (s : State) (r : Receiver) (v : Byte) : (s.writeCapture r v).sub = s.sub := by cases r <;> rfl
@[simp] theorem State.writeCapture_dwellCnt (s : State) (r : Receiver) (v : Byte) : (s.writeCapture r v).dwellCnt = s.dwellCnt := by cases r <;> rfl
@[simp] theorem State.writeCapture_suppress (s : State) (r : Receiver) (v : Byte) : (s.writeCapture r v).suppress = s.suppress := by cases r <;> rfl
@[simp] theorem State.writeCapture_eventsEn (s : State) (r : Receiver) (v : Byte) : (s.writeCapture r v).eventsEn = s.eventsEn := by cases r <;> rfl
@[simp] theorem State.writeCapture_frameValid (s : State) (r : Receiver) (v : Byte) : (s.writeCapture r v).frameValid = s.frameValid := by cases r <;> rfl
@[simp] theorem State.writeCapture_prim (s : State) (r : Receiver) (v : Byte) : (s.writeCapture r v).prim = s.prim := by cases r <;> rfl
@[simp] theorem State.writeCapture_pwrL (s : State) (r : Receiver) (v : Byte) : (s.writeCapture r v).pwrL = s.pwrL := by cases r <;> rfl
@[simp] theorem State.writeCapture_dirL (s : State) (r : Receiver) (v : Byte) : (s.writeCapture r v).dirL = s.dirL := by cases r <;> rfl
@[simp] theorem State.writeCapture_pwrR (s : State) (r : Receiver) (v : Byte) : (s.writeCapture r v).pwrR = s.pwrR := by cases r <;> rfl
@[simp] theorem State.writeCapture_dirR (s : State) (r : Receiver) (v : Byte) : (s.writeCapture r v).dirR = s.dirR := by cases r <;> rfl
@[simp] theorem State.writeCapture_cursor (s : State) (r : Receiver) (v : Byte) : (s.writeCapture r v).cursor = s.cursor := by cases r <;> rfl
@[simp] theorem State.writeCapture_ridx (s : State) (r : Receiver) (v : Byte) : (s.writeCapture r v).ridx = s.ridx := by cases r <;> rfl
@[simp] theorem State.writeCapture_faState (s : State) (r : Receiver) (v : Byte) : (s.writeCapture r v).faState = s.faState := by cases r <;> rfl
@[simp] theorem State.writeCapture_flen (s : State) (r : Receiver) (v : Byte) : (s.writeCapture r v).flen = s.flen := by cases r <;> rfl
@[simp] theorem State.writeCapture_mem (s : State) (r : Receiver) (v : Byte) : (s.writeCapture r v).mem = s.mem := by cases r <;> rfl
@[simp] theorem State.writeCapture_hb (s : State) (r : Receiver) (v : Byte) : (s.writeCapture r v).hb = s.hb := by cases r <;> rfl
@[simp] theorem State.writeCapture_hbCnt (s : State) (r : Receiver) (v : Byte) : (s.writeCapture r v).hbCnt = s.hbCnt := by cases r <;> rfl
@[simp] theorem State.writeCapture_fatalCode (s : State) (r : Receiver) (v : Byte) : (s.writeCapture r v).fatalCode = s.fatalCode := by cases r <;> rfl
@[simp] theorem State.writeCapture_dispEvt (s : State) (r : Receiver) (v : Byte) : (s.writeCapture r v).dispEvt = s.dispEvt := by cases r <;> rfl
@[simp] theorem State.writeCapture_input (s : State) (r : Receiver) (v : Byte) : (s.writeCapture r v).input = s.input := by cases r <;> rfl

/-- The written register reads the sample. -/
@[simp] theorem State.readCapture_writeCapture (s : State) (r : Receiver) (v : Byte) :
    (s.writeCapture r v).readCapture r = v := by cases r <;> rfl

/-- The other register keeps its sample. -/
theorem State.readCapture_writeCapture_other (s : State) (r q : Receiver) (v : Byte) (h : r ≠ q) :
    (s.writeCapture r v).readCapture q = s.readCapture q := by cases r <;> cases q <;> first | rfl | exact absurd rfl h

end Sys2Proof.Machine
end

