-- ==== Sys2Proof/Laws/Ops.lean ====
section
/-! SUPPORT. For each shared operation, once, everything it can answer; later proofs cite these instead of unfolding
the operation. -/

namespace Sys2Proof.Machine

open Sys2Proof

/-! ### Transactions and sequences -/

@[simp] theorem State.begun_producersEnabled (s : State) : s.begun.producersEnabled = s.producersEnabled := rfl
@[simp] theorem State.begun_lastDwellTick (s : State) : s.begun.lastDwellTick = s.lastDwellTick := rfl
@[simp] theorem State.begun_frameFull (s : State) : s.begun.frameFull = s.frameFull := rfl
@[simp] theorem State.begun_logFull (s : State) : s.begun.logFull = s.logFull := rfl
@[simp] theorem State.begun_frameGood (s : State) : s.begun.frameGood = s.frameGood := rfl
@[simp] theorem State.begun_stateVector (s : State) : s.begun.stateVector = s.stateVector := rfl
@[simp] theorem State.begun_selects (s : State) (m : MicroOp) : s.begun.selects m = s.selects m := rfl
@[simp] theorem State.begun_logEntry (s : State) (i : Nat) : s.begun.logEntry i = s.logEntry i := rfl
@[simp] theorem State.begun_reservedFault (s : State) : s.begun.reservedFault = s.reservedFault := rfl

/-- A transaction in a state without reserved codes runs its body on the state with the strobes cleared. -/
theorem transaction_of_codesOk {body : State → Out} {s : State} (h : s.CodesOk) :
    transaction body s = body s.begun := by
  simp [transaction, h]

/-- A transaction that answers a next state found no reserved code, and its body answered that state. -/
theorem transaction_eq_next {body : State → Out} {s t : State} (h : transaction body s = .next t) :
    s.CodesOk ∧ body s.begun = .next t := by
  unfold transaction at h
  split at h
  · cases h
  · rename_i hs; exact ⟨hs, h⟩

/-- A state that holds a reserved code stops every transaction. -/
theorem transaction_of_reserved {body : State → Out} {s : State} {f : Fault} (h : s.reservedFault = some f) :
    transaction body s = .fault f := by
  simp [transaction, h]

@[simp] theorem andThen_next (s : State) (k : State → Out) : andThen (.next s) k = k s := rfl

theorem andThen_eq_next {o : Out} {k : State → Out} {t : State} (h : andThen o k = .next t) :
    ∃ s, o = .next s ∧ k s = .next t := by
  cases o with
  | next s => exact ⟨s, rfl, h⟩
  | fault f => cases h
  | refused r => cases h

@[simp] theorem runList_nil {α : Type} (f : α → State → Out) (s : State) : runList f [] s = .next s := rfl

@[simp] theorem runList_cons {α : Type} (f : α → State → Out) (a : α) (l : List α) (s : State) :
    runList f (a :: l) s = andThen (f a s) (runList f l) := rfl

@[simp] theorem tickTimes_zero (s : State) : tickTimes 0 s = .next s := rfl

@[simp] theorem tickTimes_succ (n : Nat) (s : State) :
    tickTimes (n + 1) s = andThen (execTick s) (tickTimes n) := rfl

/-- The producers are enabled: `events_en` is 1 and the block is not halted (60_exceptions.md R235). -/
theorem State.producersEnabled_iff (s : State) :
    s.producersEnabled = true ↔ s.eventsEn = true ∧ s.phase ≠ Phase.halted.code := by
  simp [State.producersEnabled]

/-- The producers are disabled. -/
theorem State.producersEnabled_eq_false_iff (s : State) :
    s.producersEnabled = false ↔ ¬(s.eventsEn = true ∧ s.phase ≠ Phase.halted.code) := by
  rw [← State.producersEnabled_iff, Bool.not_eq_true]

/-! ### The reserved codes -/

/-- What it is for a state to hold no reserved code. -/
theorem State.codesOk_iff (s : State) : s.CodesOk ↔
    tickSel s.stateVector false ≠ none ∧ decodePrim s.prim ≠ none ∧ rxSel s.faState 0 false ≠ none ∧
      s.fatalCode ≠ 3 := by
  unfold State.CodesOk State.reservedFault
  split
  · simp_all
  · split
    · simp_all
    · split
      · simp_all
      · split <;> simp_all

/-- The state vector determines the phase and the step inside it. -/
theorem State.stateVector_eq_iff (s : State) (ph : Phase) (sb : Sub) :
    s.stateVector = ph.code ++ sb.code ↔ s.phase = ph.code ∧ s.sub = sb.code := by
  have hall : ∀ (a c : BitVec 3) (b d : BitVec 2), (a ++ b : BitVec 5) = c ++ d ↔ a = c ∧ b = d := by decide
  exact hall _ _ _ _

/-- Whether `last` holds does not decide whether a state vector is reserved. -/
theorem tickSel_ne_none (v : BitVec 5) (l : Bool) (h : tickSel v false ≠ none) : ∃ m, tickSel v l = some m := by
  have hall : ∀ (v : BitVec 5) (l : Bool), tickSel v false ≠ none → (tickSel v l).isSome = true := by decide
  exact Option.isSome_iff_exists.1 (hall v l h)

/-- Neither the byte nor the room in the buffer decides whether an `fa_state` is reserved. -/
theorem rxSel_ne_none (fa : BitVec 2) (b : Byte) (full : Bool) (h : rxSel fa 0 false ≠ none) :
    ∃ op, rxSel fa b full = some op := by
  have hfa : fa = 0 ∨ fa = 1 ∨ fa = 2 ∨ fa = 3 := by revert fa; decide
  rcases hfa with rfl | rfl | rfl | rfl
  · by_cases hb : b = stx <;> simp [rxSel, FaState.code, hb]
  · by_cases hb : b = etx <;> cases full <;> simp [rxSel, FaState.code, hb]
  · simp [rxSel, FaState.code]
  · exact absurd rfl h

/-! ### The operations inside a transaction -/

/-- APPEND either takes the fatal entry, on a full log, or writes one entry and goes on. -/
theorem appendThen_cases (t : Tag) (rest : State → State) (s : State) :
    (s.logFull = true ∧ appendThen t rest s = fatalEntry .pathlogOverflow s) ∨
    (s.logFull = false ∧
      appendThen t rest s = rest { s with cursor := s.cursor + 1, mem := s.mem.logWrite (s.cursor + 1) t }) := by
  unfold appendThen
  cases h : s.logFull <;> simp

/-- A ramp step either completes the ramp or only lowers the powers. -/
theorem rampStep_cases (done : State → State) (s : State) :
    ((rampPowers s).pwrL = 0 ∧ (rampPowers s).pwrR = 0 ∧ rampStep done s = done (rampPowers s)) ∨
    (¬((rampPowers s).pwrL = 0 ∧ (rampPowers s).pwrR = 0) ∧ rampStep done s = rampPowers s) := by
  unfold rampStep
  split
  · rename_i h; exact .inl ⟨h.1, h.2, rfl⟩
  · rename_i h; exact .inr ⟨h, rfl⟩

/-- A dwell tick that answers a next state ended the dwell or lowered the counter. -/
theorem dwellBody_cases {done : State → State} {s t : State} (h : dwellBody done s = .next t) :
    (s.dwellCnt = 1 ∧ t = done { s with dwellCnt := 0 }) ∨
    (2 ≤ s.dwellCnt ∧ t = { s with dwellCnt := s.dwellCnt - 1 }) := by
  unfold dwellBody at h
  split at h
  · cases h
  · split at h
    · rename_i h1; cases h; exact .inl ⟨h1, rfl⟩
    · cases h; exact .inr ⟨by omega, rfl⟩

/-- A return step that answers a next state started the final Stop or issued the inverse of the entry it read. -/
theorem returnStepBody_cases {s t : State} (h : returnStepBody s = .next t) :
    (s.ridx = 0 ∧ t = startStop s) ∨
    (∃ tag, s.ridx ≠ 0 ∧ s.logEntry s.ridx = some tag ∧
      t = { issueAndHold (inv tag) s with ridx := s.ridx - 1 }) := by
  unfold returnStepBody at h
  split at h
  · rename_i h0; cases h; exact .inl ⟨h0, rfl⟩
  · rename_i h0
    split at h
    · cases h
    · rename_i tag ht; cases h; exact .inr ⟨tag, h0, ht, rfl⟩

/-- A display tick that answers a next state toggled the heartbeat or lowered its counter. -/
theorem displayBody_cases {s t : State} (h : displayBody s = .next t) :
    (s.hbCnt = 1 ∧ t = { s with hb := !s.hb, hbCnt := s.cfg.hbTicks }) ∨
    (2 ≤ s.hbCnt ∧ t = { s with hbCnt := s.hbCnt - 1 }) := by
  unfold displayBody at h
  split at h
  · cases h
  · split at h
    · rename_i h1; cases h; exact .inl ⟨h1, rfl⟩
    · cases h; exact .inr ⟨by omega, rfl⟩

/-- A CAP body writes one register while the producers are enabled, and nothing while they are not. -/
theorem captureBody_cases (r : Receiver) (v : Byte) (s : State) :
    (s.producersEnabled = true ∧ captureBody r v s = .next (s.writeCapture r v)) ∨
    (s.producersEnabled = false ∧ captureBody r v s = .next s) := by
  unfold captureBody
  cases h : s.producersEnabled <;> simp

/-- An RXB body that answers a next state ran the selected assembler step, or did nothing while disabled. -/
theorem receiveBody_cases {b : Byte} {s t : State} (h : receiveBody b s = .next t) :
    (s.producersEnabled = true ∧ ∃ op, rxSel s.faState b s.frameFull = some op ∧ t = rxOpBody op b s) ∨
    (s.producersEnabled = false ∧ t = s) := by
  unfold receiveBody at h
  split at h
  · rename_i he
    split at h
    · rename_i op hop; cases h; exact .inl ⟨he, op, hop, rfl⟩
    · cases h
  · rename_i he; cases h; exact .inr ⟨by simpa using he, rfl⟩

/-- A TICK body that answers a next state ran the selected micro-operation. -/
theorem tickBody_cases {s t : State} (h : tickBody s = .next t) :
    ∃ m, tickSel s.stateVector s.lastDwellTick = some m ∧ microOpBody m s = .next t := by
  unfold tickBody at h
  split at h
  · rename_i m hm; exact ⟨m, hm, h⟩
  · cases h

/-- A row of format TICKSEL is the TICK, whichever row the state selects. -/
theorem tickRow_eq_tick (m : MicroOp) (s : State) : tickRow m s = transaction tickBody s := by
  have body : ∀ u : State, (if u.selects m then microOpBody m u else tickBody u) = tickBody u := by
    intro u
    split
    · rename_i h
      simp only [State.selects, Bool.or_eq_true, Bool.and_eq_true, decide_eq_true_eq] at h
      rcases h with h | ⟨rfl, h⟩ <;> simp [tickBody, h, microOpBody]
    · rfl
  simp only [tickRow, body]

/-- A row of format RXBSEL is the RXB of its byte, whichever row the state selects. -/
theorem rxRow_eq_rxb (op : RxOp) (b : Byte) (s : State) : rxRow op b s = transaction (receiveBody b) s := by
  have body : ∀ u : State, (if u.producersEnabled = true ∧ rxSel u.faState b u.frameFull = some op then
      .next (rxOpBody op b u) else receiveBody b u) = receiveBody b u := by
    intro u
    split
    · rename_i h; simp [receiveBody, h.1, h.2]
    · rfl
  simp only [rxRow, body]

/-! ### Decoding and the step -/

/-- A word that decodes is one of the four transactions. -/
theorem decodeWord_cases {w : Word} {i : Instr} (h : decodeWord w = .ok i) :
    (∃ r v, i = .cap r v) ∨ (∃ b, i = .rxb b) ∨ i = .tick ∨ i = .rst := by
  unfold decodeWord at h
  split at h
  · cases h; exact .inl ⟨_, _, rfl⟩
  · split at h
    · cases h; exact .inr (.inl ⟨_, rfl⟩)
    · split at h
      · cases h; exact .inr (.inr (.inl rfl))
      · split at h
        · cases h; exact .inr (.inr (.inr rfl))
        · cases h

/-- A step that answers a next state found no word waiting, or ran the transaction the next word is. -/
theorem step_cases {s t : State} (h : step s = .next t) :
    (s.input = [] ∧ s.CodesOk ∧ t = s) ∨
    (∃ w rest i, s.input = w :: rest ∧ decodeWord w = .ok i ∧ exec i { s with input := rest } = .next t) := by
  unfold step at h
  split at h
  · rename_i hw
    simp only [State.nextWord, List.head?_eq_none_iff] at hw
    unfold idle at h
    split at h
    · cases h
    · rename_i hs; cases h; exact .inl ⟨hw, hs, rfl⟩
  · rename_i w hw
    obtain ⟨rest, hr⟩ : ∃ rest, s.input = w :: rest := by
      cases hi : s.input with
      | nil => simp [State.nextWord, hi] at hw
      | cons a l => simp [State.nextWord, hi] at hw; exact ⟨l, by rw [hw]⟩
    split at h
    · rename_i i hi
      refine .inr ⟨w, rest, i, hr, hi, ?_⟩
      simpa [State.wordTaken, hr] using h
    · cases h

end Sys2Proof.Machine
end

