-- ==== Sys2Proof/Laws/PerInstr.lean ====
section
/-! SUPPORT. Statements about every instruction as syntax, one lemma per constructor. -/

namespace Sys2Proof.Laws.ExpandCore

open Sys2Proof

/-- A well-formed instruction stands for well-formed core instructions, each of which stands for itself
(30_encoding.md R90). -/
def Statement (i : Instr) : Prop :=
  i.wellFormed = true → ∀ j ∈ expand i, j.wellFormed = true ∧ expand j = [j]

/-- An instruction that stands for itself. -/
theorem of_self (i : Instr) (h : expand i = [i]) : Statement i := by
  intro hw j hj
  rw [h, List.mem_singleton] at hj
  subst hj
  exact ⟨hw, h⟩

theorem cap (r : Receiver) (v : Byte) : Statement (.cap r v) := of_self _ rfl
theorem rxb (b : Byte) : Statement (.rxb b) := of_self _ rfl
theorem tick : Statement .tick := of_self _ rfl
theorem rst : Statement .rst := of_self _ rfl
theorem searchSpin : Statement .searchSpin := of_self _ rfl
theorem searchDwell : Statement .searchDwell := of_self _ rfl
theorem searchCheck : Statement .searchCheck := of_self _ rfl
theorem trackDecide : Statement .trackDecide := of_self _ rfl
theorem dwellTickTracking : Statement .dwellTickTracking := of_self _ rfl
theorem rampTickTracking : Statement .rampTickTracking := of_self _ rfl
theorem rampTickArrived : Statement .rampTickArrived := of_self _ rfl
theorem returnStep : Statement .returnStep := of_self _ rfl
theorem dwellTickReturning : Statement .dwellTickReturning := of_self _ rfl
theorem rampTickReturning : Statement .rampTickReturning := of_self _ rfl
theorem displayTick : Statement .displayTick := of_self _ rfl
theorem haltTick : Statement .haltTick := of_self _ rfl
theorem rxStart : Statement .rxStart := of_self _ rfl
theorem rxIgnoreIdle (b : Byte) : Statement (.rxIgnoreIdle b) := of_self _ rfl
theorem rxEndEvaluate : Statement .rxEndEvaluate := of_self _ rfl
theorem rxCollect (b : Byte) : Statement (.rxCollect b) := of_self _ rfl
theorem rxOverflow (b : Byte) : Statement (.rxOverflow b) := of_self _ rfl
theorem rxIgnoreAccepted (b : Byte) : Statement (.rxIgnoreAccepted b) := of_self _ rfl
theorem stop : Statement .stop := of_self _ rfl
theorem spinLeft : Statement .spinLeft := of_self _ rfl
theorem spinRight : Statement .spinRight := of_self _ rfl
theorem gentleRightFwd : Statement .gentleRightFwd := of_self _ rfl
theorem gentleLeftFwd : Statement .gentleLeftFwd := of_self _ rfl
theorem gentleRightBwd : Statement .gentleRightBwd := of_self _ rfl
theorem gentleLeftBwd : Statement .gentleLeftBwd := of_self _ rfl
theorem straightFwd : Statement .straightFwd := of_self _ rfl
theorem straightBwd : Statement .straightBwd := of_self _ rfl
theorem halt : Statement .halt := of_self _ rfl
theorem tagSpinSearch : Statement .tagSpinSearch := of_self _ rfl
theorem tagStraightForward : Statement .tagStraightForward := of_self _ rfl
theorem tagAdjustRight : Statement .tagAdjustRight := of_self _ rfl
theorem tagAdjustLeft : Statement .tagAdjustLeft := of_self _ rfl

theorem caps (a b : Byte) : Statement (.caps a b) := by
  intro _ j hj
  simp only [expand, List.mem_cons, List.not_mem_nil, or_false] at hj
  rcases hj with rfl | rfl <;> exact ⟨rfl, rfl⟩

theorem ticks (n : Nat) : Statement (.ticks n) := by
  intro _ j hj
  rw [List.eq_of_mem_replicate hj]
  exact ⟨rfl, rfl⟩

theorem rxs (s : List Byte) : Statement (.rxs s) := by
  intro _ j hj
  obtain ⟨b, _, rfl⟩ := List.mem_map.1 hj
  exact ⟨rfl, rfl⟩

theorem frame (s : List Byte) : Statement (.frame s) := by
  intro _ j hj
  simp only [expand, List.mem_append, List.mem_cons, List.mem_map, List.not_mem_nil, or_false] at hj
  rcases hj with (rfl | ⟨b, _, rfl⟩) | rfl <;> exact ⟨rfl, rfl⟩

end Sys2Proof.Laws.ExpandCore
end

