-- ==== Sys2Proof/Tests/Slice0.lean ====
section
/-! SUPPORT. The tests: ill-formed instructions refused, codes written out from the spec's encodings decoded, single
steps with the results 95_test_vectors.md gives, and for every obligation with hypotheses a state and operands that
meet them. -/

open Sys2Proof Sys2Proof.Machine

namespace Sys2Proof.Tests

/-! ## Well-formed instructions -/

/-- One ill-formed instruction for each check of 30_encoding.md R86, R89, R90 (0x02 is STX, 0x03 is ETX). -/
theorem test_ill_formed_refused :
    (Instr.ticks 0).wellFormed = false ∧ (Instr.rxs [0x31, 0x80]).wellFormed = false ∧
    (Instr.frame [0xFF]).wellFormed = false ∧ (Instr.rxIgnoreIdle 0x02).wellFormed = false ∧
    (Instr.rxCollect 0x03).wellFormed = false ∧ (Instr.rxOverflow 0x03).wellFormed = false := by decide

/-- The same instructions one step inside their constraint. -/
theorem test_well_formed_accepted :
    (Instr.ticks 1).wellFormed = true ∧ (Instr.rxs [0x31, 0x7F]).wellFormed = true ∧
    (Instr.frame []).wellFormed = true ∧ (Instr.rxIgnoreIdle 0x03).wellFormed = true ∧
    (Instr.rxCollect 0x02).wellFormed = true ∧ (Instr.rxOverflow 0x02).wellFormed = true := by decide

/-- An ill-formed pseudo-instruction is refused when it runs (log entry 6). -/
theorem test_ill_formed_not_run :
    exec (.ticks 0) State.reset = .refused .illFormed ∧ exec (.rxs [0x80]) State.reset = .refused .illFormed ∧
    exec (.frame [0x80]) State.reset = .refused .illFormed := ⟨rfl, rfl, rfl⟩

/-! ## Decoding: words and codes written out from the spec -/

/-- 95_test_vectors.md L2.1, the words that decode. -/
theorem test_decode_words :
    decodeWord 0b000011000011 = .ok (.cap .first 195) ∧ decodeWord 0b000111000011 = .ok (.cap .second 195) ∧
    decodeWord 0b010000000011 = .ok (.rxb 3) ∧ decodeWord 0b100000000000 = .ok .tick ∧
    decodeWord 0b110000000000 = .ok .rst := by decide

/-- 95_test_vectors.md L2.1, the reserved words. -/
theorem test_decode_reserved_words :
    decodeWord 0x200 = .error (.reservedWord 0x200) ∧ decodeWord 0x3C3 = .error (.reservedWord 0x3C3) ∧
    decodeWord 0x500 = .error (.reservedWord 0x500) ∧ decodeWord 0x602 = .error (.reservedWord 0x602) ∧
    decodeWord 0x7FF = .error (.reservedWord 0x7FF) ∧ decodeWord 0x801 = .error (.reservedWord 0x801) ∧
    decodeWord 0xA00 = .error (.reservedWord 0xA00) ∧ decodeWord 0xC01 = .error (.reservedWord 0xC01) ∧
    decodeWord 0xE00 = .error (.reservedWord 0xE00) := by decide

/-- 30_encoding.md R76: the state vector of every micro-operation. -/
theorem test_decode_tick_selectors :
    decodeCode (.tickSel 0b00000 false) = .ok .searchSpin ∧ decodeCode (.tickSel 0b00001 false) = .ok .searchDwell ∧
    decodeCode (.tickSel 0b00001 true) = .ok .searchCheck ∧ decodeCode (.tickSel 0b00100 false) = .ok .trackDecide ∧
    decodeCode (.tickSel 0b00101 false) = .ok .dwellTickTracking ∧
    decodeCode (.tickSel 0b00110 false) = .ok .rampTickTracking ∧
    decodeCode (.tickSel 0b01010 false) = .ok .rampTickArrived ∧
    decodeCode (.tickSel 0b01100 false) = .ok .returnStep ∧
    decodeCode (.tickSel 0b01101 false) = .ok .dwellTickReturning ∧
    decodeCode (.tickSel 0b01110 false) = .ok .rampTickReturning ∧
    decodeCode (.tickSel 0b10000 false) = .ok .displayTick ∧
    decodeCode (.tickSel 0b10100 false) = .ok .haltTick := by decide

/-- 44_frame.md R200: `fa_state` and the byte of every assembler step. -/
theorem test_decode_byte_selectors :
    decodeCode (.rxbSel 0b0000000010 false) = .ok .rxStart ∧
    decodeCode (.rxbSel 0b0001011000 false) = .ok (.rxIgnoreIdle 0x58) ∧
    decodeCode (.rxbSel 0b0100000011 false) = .ok .rxEndEvaluate ∧
    decodeCode (.rxbSel 0b0100000011 true) = .ok .rxEndEvaluate ∧
    decodeCode (.rxbSel 0b0100110001 false) = .ok (.rxCollect 0x31) ∧
    decodeCode (.rxbSel 0b0100110001 true) = .ok (.rxOverflow 0x31) ∧
    decodeCode (.rxbSel 0b1000000010 false) = .ok (.rxIgnoreAccepted 0x02) := by decide

/-- 30_encoding.md R80 and R82: the maneuver codes and the record codes. -/
theorem test_decode_prims_and_tags :
    decodeCode (.prim 0b0000) = .ok .stop ∧ decodeCode (.prim 0b0001) = .ok .spinLeft ∧
    decodeCode (.prim 0b0010) = .ok .spinRight ∧ decodeCode (.prim 0b0011) = .ok .gentleRightFwd ∧
    decodeCode (.prim 0b0100) = .ok .gentleLeftFwd ∧ decodeCode (.prim 0b0101) = .ok .gentleRightBwd ∧
    decodeCode (.prim 0b0110) = .ok .gentleLeftBwd ∧ decodeCode (.prim 0b0111) = .ok .straightFwd ∧
    decodeCode (.prim 0b1000) = .ok .straightBwd ∧ decodeCode (.prim 0b1111) = .ok .halt ∧
    decodeCode (.tag 0b00) = .ok .tagSpinSearch ∧ decodeCode (.tag 0b01) = .ok .tagStraightForward ∧
    decodeCode (.tag 0b10) = .ok .tagAdjustRight ∧ decodeCode (.tag 0b11) = .ok .tagAdjustLeft := by decide

/-- Reserved codes of 30_encoding.md R78, R81 and R85 are refused by name. -/
theorem test_decode_reserved_codes :
    decodeCode (.tickSel 0b00010 false) = .error (.reservedState 0b00010) ∧
    decodeCode (.tickSel 0b11000 true) = .error (.reservedState 0b11000) ∧
    decodeCode (.prim 0b1001) = .error (.reservedPrim 0b1001) ∧
    decodeCode (.prim 0b1110) = .error (.reservedPrim 0b1110) ∧
    decodeCode (.rxbSel 0b1100000011 false) = .error .reservedFaState := by decide

/-- Pseudo-instructions as the words of 95_test_vectors.md P1 and P3: `CAPS 195, 195`, `TICKS 2`, `RXS "12"` and
`FRAME "12"`. -/
theorem test_decode_pseudo_words :
    encode (.caps 195 195) = [.tw 0x0C3, .tw 0x1C3] ∧ encode (.ticks 2) = [.tw 0x800, .tw 0x800] ∧
    encode (.rxs [0x31, 0x32]) = [.tw 0x431, .tw 0x432] ∧
    encode (.frame [0x31, 0x32]) = [.tw 0x402, .tw 0x431, .tw 0x432, .tw 0x403] ∧
    decode [.tw 0x402, .tw 0x431, .tw 0x432, .tw 0x403] = .ok [.rxb 2, .rxb 0x31, .rxb 0x32, .rxb 3] := by decide

/-- The words of a table row as the host numbers them: the kind bits are bits 11 and 10. -/
theorem test_decode_table_words :
    decodeTableWord 16 0x0C3 = some (.cap .first 195) ∧ decodeTableWord 16 0x402 = some (.rxb 2) ∧
    decodeTableWord 16 0x800 = some .tick ∧ decodeTableWord 16 0xC00 = some .rst ∧
    decodeTableWord 16 0x1800 = none ∧ decodeTableWord 16 0x200 = none := by decide

/-! ## Single steps -/

/-- The outcome is a next state that meets a test. -/
def gives (o : Out) (p : State → Bool) : Bool :=
  match o with
  | .next t => p t
  | .fault _ => false
  | .refused _ => false

/-- The reset state moved to a phase and a step inside it. -/
def at' (ph : Phase) (sb : Sub) : State := State.reset.setPc ph sb

/-- TRACKING, where the suppression flag is clear. -/
def tracking : State := { at' .tracking .decide with suppress := false }

/-- The frame assembler collecting `bs`. -/
def collected (bs : List Byte) : State :=
  { State.reset with faState := 0b01, flen := bs.length, mem := ⟨[], (List.range bs.length).zip bs⟩ }

/-- The bytes of "123456789098" (95_test_vectors.md L1.3). -/
def good : List Byte := [0x31, 0x32, 0x33, 0x34, 0x35, 0x36, 0x37, 0x38, 0x39, 0x30, 0x39, 0x38]

/-- A frame accepted and every producer off: the condition of ARRIVED, RETURNING and DISPLAYING. -/
def arrived (s : State) : State :=
  { s with
    suppress := false
    eventsEn := false
    frameValid := true
    faState := 0b10
    flen := 12
    mem := { s.mem with fbuf := (List.range 12).zip good } }

/-- RETURNING with `log = [SpinSearch, AdjustRight]` and `ridx = 2` (95_test_vectors.md L2.5). -/
def replaying : State :=
  { arrived (at' .returning .decide) with
    cursor := 2, ridx := 2, mem := ⟨[(1, 0b00), (2, 0b10)], (List.range 12).zip good⟩ }

/-- A ramp from two powers. -/
def ramping (ph : Phase) (a b : BitVec 7) : State := { arrived (at' ph .ramp) with pwrL := a, pwrR := b }

/-- A dwell. -/
def dwelling (ph : Phase) (n : Nat) : State := { at' ph .dwell with prim := 0x3, dwellCnt := n }

/-- HALTED after a frame overflow. -/
def stopped : State := { at' .halted .decide with fatalCode := 2, eventsEn := false, prim := 0xF }

/-- DISPLAYING with a heartbeat count. -/
def displaying (n : Nat) : State := { arrived (at' .displaying .decide) with hb := true, hbCnt := n }

/-- The reset memory has the canonical form. -/
theorem test_reset_memory : State.reset.mem.wf := by decide

/-- L2.4: `CAP 1, 200` from reset. -/
theorem test_cap_writes : gives (exec (.cap .first 200) State.reset) (fun t => t.cap1 == 200 && t.cap2 == 0) = true := by
  decide

/-- L2.4: no change in HALTED. -/
theorem test_cap_halted : gives (exec (.cap .second 195) stopped) (fun t => t == stopped) = true := by decide

/-- L2.6: an inner 0x02 is stored as data. -/
theorem test_rxb_stores : gives (exec (.rxb 0x02) (collected [0x31]))
    (fun t => t.flen == 2 && t.mem.fbufRead 1 == 0x02 && t.faState == 0b01) = true := by decide

/-- L2.5: the first TICK after reset. -/
theorem test_tick_from_reset : gives (exec .tick State.reset)
    (fun t => t.prim == 0x1 && t.pwrL == 69 && t.pwrR == 72 && t.dirL && !t.dirR && t.dwellCnt == 1 &&
      t.sub == 0b01 && t.cursor == 0) = true := by decide

/-- A TICK in a reserved state is a model fault (30_encoding.md R78). -/
theorem test_tick_reserved : exec .tick (at' .arrived .decide) = .fault .reservedState := rfl

/-- L2.8: RST in HALTED gives the reset state. -/
theorem test_rst_halted : gives (exec .rst stopped) (fun t => t == State.reset) = true := by decide

/-- L2.8: RST in DISPLAYING gives the reset state, the buffer cleared. -/
theorem test_rst_displaying : gives (exec .rst (displaying 2)) (fun t => t == State.reset) = true := by decide

/-- L2.5: a spin that is recorded, at `cursor = 3`. -/
theorem test_search_spin_records : gives (exec .searchSpin { State.reset with suppress := false, cursor := 3 })
    (fun t => t.mem.logRead 4 == some .spinSearch && t.cursor == 4 && t.prim == 0x1) = true := by decide

/-- L2.5: a spin on a full log halts and issues nothing. -/
theorem test_search_spin_overflow : gives (exec .searchSpin { State.reset with suppress := false, cursor := 255 })
    (fun t => t.phase == 0b101 && t.fatalCode == 1 && t.prim == 0xF && t.cursor == 255) = true := by decide

/-- L2.5: with `dwell_cnt = 2` no check yet. -/
theorem test_search_dwell : gives (exec .searchDwell { dwelling .searching 2 with cap1 := 195, cap2 := 195 })
    (fun t => t.dwellCnt == 1 && t.phase == 0b000 && t.sub == 0b01) = true := by decide

/-- L2.5: the check matches. -/
theorem test_search_check_match : gives (exec .searchCheck { dwelling .searching 1 with cap1 := 195, cap2 := 195 })
    (fun t => t.phase == 0b001 && t.sub == 0b10 && t.prim == 0x0 && !t.suppress) = true := by decide

/-- L2.5: the check with (195, 194). -/
theorem test_search_check_miss : gives (exec .searchCheck { dwelling .searching 1 with cap1 := 195, cap2 := 194 })
    (fun t => t.phase == 0b000 && t.sub == 0b00 && t.suppress) = true := by decide

/-- L2.5: (0, 6) is not lost and adjusts left. -/
theorem test_track_decide_left : gives (exec .trackDecide { tracking with cap1 := 0, cap2 := 6 })
    (fun t => t.prim == 0x4 && t.dwellCnt == 1 && t.mem.logRead 1 == some .adjustLeft) = true := by decide

/-- L2.5: (0, 5) is lost; nothing is issued or appended. -/
theorem test_track_decide_lost : gives (exec .trackDecide { tracking with cap1 := 0, cap2 := 5 })
    (fun t => t.phase == 0b000 && t.sub == 0b00 && t.cursor == 0 && t.prim == 0x0) = true := by decide

/-- L2.5: the last dwell tick sets `sub = DECIDE`. -/
theorem test_dwell_tick_tracking : gives (exec .dwellTickTracking (dwelling .tracking 1))
    (fun t => t.dwellCnt == 0 && t.sub == 0b00 && t.prim == 0x3) = true := by decide

/-- L2.5: a dwell tick that is not the last, in RETURNING. -/
theorem test_dwell_tick_returning : gives (exec .dwellTickReturning (dwelling .returning 3))
    (fun t => t.dwellCnt == 2 && t.sub == 0b01) = true := by decide

/-- L2.3: from (0, 2) a ramp tick lowers one power and the other stays 0. -/
theorem test_ramp_tick_tracking : gives (exec .rampTickTracking (ramping .tracking 0 2))
    (fun t => t.pwrL == 0 && t.pwrR == 1 && t.sub == 0b10 && t.phase == 0b001) = true := by decide

/-- L2.3: from (0, 0) a ramp tick completes at once; in ARRIVED the replay begins. -/
theorem test_ramp_tick_arrived : gives (exec .rampTickArrived (ramping .arrived 0 0))
    (fun t => t.phase == 0b011 && t.sub == 0b00) = true := by decide

/-- L2.5: the last ramp tick of RETURNING enters DISPLAYING. -/
theorem test_ramp_tick_returning : gives (exec .rampTickReturning (ramping .returning 1 0))
    (fun t => t.phase == 0b100 && t.sub == 0b00 && t.hb && t.hbCnt == 2 && t.dispEvt == 0b001) = true := by decide

/-- L2.5, the return table, TICK 1. -/
theorem test_return_step : gives (exec .returnStep replaying)
    (fun t => t.prim == 0x6 && t.dwellCnt == 3 && t.ridx == 1 && t.cursor == 2) = true := by decide

/-- L2.5, the return table, TICK 7: `ridx = 0` starts the final Stop. -/
theorem test_return_step_end : gives (exec .returnStep { replaying with ridx := 0 })
    (fun t => t.prim == 0x0 && t.sub == 0b10 && t.phase == 0b011) = true := by decide

/-- L2.5, the display table, +2. -/
theorem test_display_tick : gives (exec .displayTick (displaying 1))
    (fun t => !t.hb && t.hbCnt == 2 && t.ledOut == 0x0) = true := by decide

/-- The row of another micro-operation, run in a state that selects SEARCH_SPIN, is the TICK of that state
(30_encoding.md R76, R90). -/
theorem test_unselected_row_is_the_tick :
    gives (exec .trackDecide State.reset) (fun t => t.prim == 0x1 && t.sub == 0b01 && t.cursor == 0) = true := by decide

/-- RX_COLLECT in IDLE is an RXB that is ignored; RX_OVERFLOW with room in the buffer is one that is stored
(44_frame.md R202, R204). -/
theorem test_unselected_byte_is_the_rxb :
    gives (exec (.rxCollect 0x31) State.reset) (fun t => t == State.reset) = true ∧
    gives (exec (.rxOverflow 0x31) (collected [0x32])) (fun t => t.flen == 2 && t.mem.fbufRead 1 == 0x31) = true := by
  decide

/-- L2.5: in HALTED a TICK changes nothing. -/
theorem test_halt_tick : gives (exec .haltTick stopped) (fun t => t == stopped) = true := by decide

/-- L2.6: the start marker from reset. -/
theorem test_rx_start : gives (exec .rxStart State.reset) (fun t => t.faState == 0b01 && t.flen == 0) = true := by
  decide

/-- L2.6: an end marker with no start marker. -/
theorem test_rx_ignore_idle : gives (exec (.rxIgnoreIdle 0x03) State.reset) (fun t => t == State.reset) = true := by
  decide

/-- L2.6: "123456789098" is accepted. -/
theorem test_rx_end_evaluate_accepts : gives (exec .rxEndEvaluate (collected good))
    (fun t => t.frameValid && t.faState == 0b10 && t.flen == 12 && t.outputs.payload == good.take 10) = true := by
  decide

/-- L2.6: eleven bytes are rejected. -/
theorem test_rx_end_evaluate_rejects : gives (exec .rxEndEvaluate (collected (good.take 11)))
    (fun t => !t.frameValid && t.faState == 0b00 && t.flen == 0 && t.dispEvt == 0b010) = true := by decide

/-- A byte 0x00 is stored as the buffer's unlisted value (44_frame.md R204). -/
theorem test_rx_collect : gives (exec (.rxCollect 0x00) (collected [0x31]))
    (fun t => t.flen == 2 && t.mem == (collected [0x31]).mem) = true := by decide

/-- L2.6: the 13th byte halts, `fa_state` stays COLLECTING. -/
theorem test_rx_overflow : gives (exec (.rxOverflow 0x38) (collected good))
    (fun t => t.phase == 0b101 && t.fatalCode == 2 && t.faState == 0b01 && t.flen == 12 && t.dispEvt == 0b100) =
      true := by decide

/-- L2.6: a second frame is ignored. -/
theorem test_rx_ignore_accepted :
    gives (exec (.rxIgnoreAccepted 0x02) { arrived tracking with eventsEn := true })
      (fun t => t == { arrived tracking with eventsEn := true }) = true := by decide

/-- L2.3: STOP keeps the powers until the ramp. -/
theorem test_stop : gives (exec .stop { tracking with pwrL := 93, pwrR := 95 })
    (fun t => t.prim == 0x0 && t.sub == 0b10 && t.pwrL == 93 && t.pwrR == 95) = true := by decide

/-- L2.3: duties of SPIN_LEFT. -/
theorem test_spin_left : gives (exec .spinLeft State.reset) (fun t => t.dutyL == 310 && t.dutyR == 720) = true := by
  decide

/-- L2.3: duties of SPIN_RIGHT. -/
theorem test_spin_right : gives (exec .spinRight State.reset) (fun t => t.dutyL == 690 && t.dutyR == 360) = true := by
  decide

/-- L2.3: duties and dwell of GENTLE_RIGHT_FWD. -/
theorem test_gentle_right_fwd : gives (exec .gentleRightFwd State.reset)
    (fun t => t.dutyL == 450 && t.dutyR == 750 && t.dwellCnt == 3) = true := by decide

/-- L2.3: duties and dwell of GENTLE_LEFT_FWD. -/
theorem test_gentle_left_fwd : gives (exec .gentleLeftFwd State.reset)
    (fun t => t.dutyL == 850 && t.dutyR == 450 && t.dwellCnt == 1) = true := by decide

/-- L2.3: duties and dwell of GENTLE_RIGHT_BWD. -/
theorem test_gentle_right_bwd : gives (exec .gentleRightBwd State.reset)
    (fun t => t.dutyL == 300 && t.dutyR == 100 && t.dwellCnt == 1) = true := by decide

/-- L2.3: duties and dwell of GENTLE_LEFT_BWD. -/
theorem test_gentle_left_bwd : gives (exec .gentleLeftBwd State.reset)
    (fun t => t.dutyL == 150 && t.dutyR == 300 && t.dwellCnt == 3) = true := by decide

/-- L2.3: duties of STRAIGHT_FWD. -/
theorem test_straight_fwd : gives (exec .straightFwd State.reset)
    (fun t => t.dutyL == 930 && t.dutyR == 950 && t.dwellCnt == 1) = true := by decide

/-- L2.3: duties of STRAIGHT_BWD. -/
theorem test_straight_bwd : gives (exec .straightBwd State.reset)
    (fun t => t.dutyL == 20 && t.dutyR == 50 && t.dwellCnt == 1) = true := by decide

/-- L2.3: HALT drops both channels at once. -/
theorem test_halt : gives (exec .halt { tracking with pwrL := 93, pwrR := 95, dirR := true })
    (fun t => t.prim == 0xF && t.dutyL == 0 && t.dutyR == 0) = true := by decide

/-- APPEND of each record at the cursor (43_pathlog.md R180). -/
theorem test_tags :
    gives (exec .tagSpinSearch State.reset) (fun t => t.cursor == 1 && t.mem.logRead 1 == some .spinSearch) = true ∧
    gives (exec .tagAdjustRight State.reset) (fun t => t.cursor == 1 && t.mem.logRead 1 == some .adjustRight) = true ∧
    gives (exec .tagAdjustLeft State.reset) (fun t => t.cursor == 1 && t.mem.logRead 1 == some .adjustLeft) = true := by
  decide

/-- L2.7: `CAP = 255`, `cursor = 254`. -/
theorem test_tag_last_entry : gives (exec .tagStraightForward { State.reset with cursor := 254 })
    (fun t => t.cursor == 255 && t.mem.logRead 255 == some .straightForward) = true := by decide

/-- P1 line 5. -/
theorem test_caps : gives (exec (.caps 195 7) State.reset) (fun t => t.cap1 == 195 && t.cap2 == 7) = true := by decide

/-- P5 lines 10 to 12: three ticks from an arrival with an empty log. -/
theorem test_ticks : gives (exec (.ticks 3) (ramping .arrived 0 0))
    (fun t => t.phase == 0b100 && t.dispEvt == 0b001) = true := by decide

/-- L2.6: "X" 03 before a start marker. -/
theorem test_rxs : gives (exec (.rxs [0x58, 0x03, 0x02]) State.reset) (fun t => t.faState == 0b01) = true := by decide

/-- L2.6: the frame of no bytes is rejected by length. -/
theorem test_frame : gives (exec (.frame []) State.reset) (fun t => t.faState == 0b00 && t.dispEvt == 0b010) = true := by
  decide

/-- L2.1, port view: the edge `0C3 1C3 800`, and the same edge with `rst = 1`. -/
theorem test_edge :
    (Edge.transactions ⟨false, some 195, some 195, none, true⟩).flatMap encode = [.tw 0x0C3, .tw 0x1C3, .tw 0x800] ∧
    (Edge.transactions ⟨true, some 195, some 195, none, true⟩).flatMap encode = [.tw 0xC00] := by decide

/-- L2.8: in one clock the 13th byte halts and the tick is a HALT_TICK. -/
theorem test_edge_overflow :
    gives (clockEdge ⟨false, none, none, some 0x38, true⟩ { collected good with phase := 0b001 })
      (fun t => t.phase == 0b101 && t.fatalCode == 2 && t.dispEvt == 0b100) = true := by decide

/-- L2.2: duties at the ends of the ranges. -/
theorem test_duty :
    dutyValue 69 false 65535 = 45219 ∧ dutyValue 69 true 65535 = 20316 ∧ dutyValue 1 true 999 = 990 ∧
    dutyValue 0 true 1 = 1 ∧ dutyValue 100 true 1000 = 0 ∧ dutyLow 45219 = 0xA3 ∧ dutyHigh 45219 = 0xB0 := by decide

/-- L2.6: HEXVAL and HEXPAIR. -/
theorem test_hex :
    hexVal 0x30 = some 0 ∧ hexVal 0x39 = some 9 ∧ hexVal 0x41 = some 10 ∧ hexVal 0x46 = some 15 ∧ hexVal 0x2F = none ∧
    hexVal 0x3A = none ∧ hexVal 0x40 = none ∧ hexVal 0x47 = none ∧ hexVal 0x61 = none ∧ hexVal 0x02 = none ∧
    hexPair 0x39 0x38 = some 0x98 ∧ hexPair 0x41 0x42 = some 0xAB ∧ hexPair 0x46 0x30 = some 0xF0 := by decide

/-- A step of a word that arrives runs it: withFetchWord puts it first in the stream. -/
theorem test_fetch : gives (step (State.reset.withFetchWord 16 0x1C3)) (fun t => t.cap2 == 195 && t.input == []) = true := by
  decide

/-! ## Witnesses: states and operands that meet the hypotheses of the obligations -/

/-- The reset state with a stream of words. -/
def feeding (s : State) (ws : List Word) : State := { s with input := ws }

/-- A step answers a next state. -/
def steps (s : State) : Bool := gives (step s) fun _ => true

/-- `steps` as the hypothesis the obligations have. -/
theorem exists_of_steps {s : State} (h : steps s = true) : ∃ t, step s = .next t := by
  unfold steps gives at h
  split at h
  · exact ⟨_, by assumption⟩
  · cases h
  · cases h

/-- The word `w` at the head of a stream is the transaction `i`. -/
theorem next_of_head {s : State} {i : Instr} (w : Word) (rest : List Word) (h : s.input = w :: rest)
    (hd : decodeWord w = .ok i) : s.Next i := ⟨w, rest, h, hd⟩

/-- Collecting with the producers on, and the memory canonical. -/
def collectingOk (s : State) : Prop :=
  s.CodesOk ∧ s.mem.wf ∧ s.Enabled ∧ s.faState = FaState.collecting.code

theorem witness_DecodeOfEncode :
    ([.cap .second 255, .rxb 0xFF, .ticks 1, .caps 0 255, .rxs [0x00, 0x7F], .frame [], .rxIgnoreIdle 0x03,
      .rxCollect 0x02, .rxOverflow 0xFF, .rxIgnoreAccepted 0x03, .halt] : List Instr).all Instr.wellFormed = true := by
  decide

theorem witness_EncodeOfDecodedWord : decodeWord 0x1FF = .ok (.cap .second 255) := by decide

theorem witness_ReservedWordsAreRefused :
    (feeding State.reset [0x200]).input = 0x200 :: [] ∧ ReservedBits 0x200 ∧ ¬ReservedBits 0x1FF ∧
    Instr.tick ∈ (⟨false, none, none, none, true⟩ : Edge).transactions := by decide

theorem witness_ReservedCodesFaultAndAreNeverDriven :
    (9 ≤ ({ State.reset with prim := 0x9 } : State).prim.toNat ∧ ({ State.reset with prim := 0xE } : State).prim.toNat ≤ 14) ∧
    ({ State.reset with faState := 0b11 } : State).faState = 0b11 ∧
    ({ State.reset with fatalCode := 3 } : State).fatalCode = 3 := by decide

/-- A step of each transaction, and of none, that answers a next state: the hypothesis of OnlyCapAndRstWriteSamples,
StepKeepsTheConfiguration, ReservedStatesFault, ReservedCodesFaultAndAreNeverDriven and FlagsChangeOnlyAsTheirRulesSay. -/
theorem witness_steps :
    (∃ t, step State.reset = .next t) ∧ (∃ t, step (feeding State.reset [0x1C3]) = .next t) ∧
    (∃ t, step (feeding (collected good) [0x403]) = .next t) ∧ (∃ t, step (feeding State.reset [0x800]) = .next t) ∧
    ∃ t, step (feeding stopped [0xC00]) = .next t :=
  ⟨exists_of_steps (by decide), exists_of_steps (by decide), exists_of_steps (by decide), exists_of_steps (by decide),
    exists_of_steps (by decide)⟩

theorem witness_StepRunsDecodedWord :
    (feeding State.reset [0x800]).input = 0x800 :: [] ∧ decodeWord 0x800 = .ok .tick ∧
    State.reset.input = [] ∧ State.reset.CodesOk := by decide

theorem witness_TickRunsSelectedMicroOperation :
    (at' .searching .decide).stateVector = 0b00000 ∧ (dwelling .searching 1).stateVector = 0b00001 ∧
    (dwelling .searching 1).dwellCnt = 1 ∧ tracking.stateVector = 0b00100 ∧
    (dwelling .tracking 1).stateVector = 0b00101 ∧ (ramping .tracking 0 0).stateVector = 0b00110 ∧
    (ramping .arrived 0 0).stateVector = 0b01010 ∧ replaying.stateVector = 0b01100 ∧
    (dwelling .returning 1).stateVector = 0b01101 ∧ (ramping .returning 0 0).stateVector = 0b01110 ∧
    (displaying 1).stateVector = 0b10000 ∧ stopped.stateVector = 0b10100 ∧
    tickSel (at' .searching .ramp).stateVector false = none := by decide

theorem witness_RxbRunsSelectedStep :
    (stopped.CodesOk ∧ ¬stopped.Enabled) ∧ (State.reset.CodesOk ∧ State.reset.Enabled) ∧
    State.reset.faState = FaState.idle.code ∧ ((collected good).CodesOk ∧ (collected good).Enabled) ∧
    (collected good).faState = FaState.collecting.code ∧ ¬(collected good).flen < (collected good).cfg.fcap ∧
    (collected (good.take 11)).flen < (collected (good.take 11)).cfg.fcap ∧
    ({ arrived tracking with eventsEn := true } : State).Enabled ∧
    ({ arrived tracking with eventsEn := true } : State).CodesOk ∧
    ({ arrived tracking with eventsEn := true } : State).faState = FaState.accepted.code := by decide

/-- A state that selects one row and the row of another; producers disabled; and an enabled state that selects
RX_IGNORE_IDLE for the byte of RX_COLLECT. -/
theorem witness_RowsRunTheTransactionTheyStandFor :
    State.reset.CodesOk ∧ tickSel State.reset.stateVector State.reset.lastDwellTick = some .searchSpin ∧
    (stopped.CodesOk ∧ ¬stopped.Enabled) ∧ State.reset.Enabled ∧
    rxSel State.reset.faState (rowByte .collect 0x31) State.reset.frameFull = some .ignoreIdle := by decide

theorem witness_CapWritesOneSample :
    (State.reset.CodesOk ∧ State.reset.Enabled) ∧ ((displaying 1).CodesOk ∧ ¬(displaying 1).Enabled) := by decide

theorem witness_ProducersCommute :
    (collected (good.take 11)).CodesOk ∧
    ¬((collected (good.take 11)).faState = FaState.collecting.code ∧ (0x38 : Byte) ≠ 0x03 ∧
      (collected (good.take 11)).cfg.fcap ≤ (collected (good.take 11)).flen) ∧
    ¬((collected good).faState = FaState.collecting.code ∧ (0x03 : Byte) ≠ 0x03 ∧
      (collected good).cfg.fcap ≤ (collected good).flen) := by decide

theorem witness_StartClearsTheBuffer :
    State.reset.CodesOk ∧ State.reset.Enabled ∧ State.reset.faState = FaState.idle.code := by decide

theorem witness_IgnoredBytesChangeNothing :
    (State.reset.CodesOk ∧ State.reset.Enabled ∧ State.reset.faState = FaState.idle.code ∧ (0x03 : Byte) ≠ 0x02) ∧
    ({ arrived tracking with eventsEn := true } : State).CodesOk ∧
    ({ arrived tracking with eventsEn := true } : State).Enabled ∧
    ({ arrived tracking with eventsEn := true } : State).faState = FaState.accepted.code := by decide

/-- CollectStoresOneByte at both ends of the buffer. -/
theorem witness_CollectStoresOneByte :
    (collectingOk (collected []) ∧ (0x02 : Byte) ≠ 0x03 ∧ (collected []).flen < (collected []).cfg.fcap) ∧
    collectingOk (collected (good.take 11)) ∧
      (collected (good.take 11)).flen + 1 = (collected (good.take 11)).cfg.fcap := by
  unfold collectingOk; decide

theorem witness_FrameOverflowHalts :
    collectingOk (collected good) ∧ (0x38 : Byte) ≠ 0x03 ∧ (collected good).flen = (collected good).cfg.fcap := by
  unfold collectingOk; decide

/-- EvaluateFollowsTheChecksum: an accepted frame, and frames rejected by length, by a character and by checksum. -/
theorem witness_EvaluateFollowsTheChecksum :
    (collectingOk (collected good) ∧ (collected good).flen = 12 ∧ GoodFrame (collected good).mem.fbufRead) ∧
    (collectingOk (collected (good.take 11)) ∧ (collected (good.take 11)).flen ≠ 12) ∧
    (collectingOk (collected (good.set 0 0x61)) ∧ ¬GoodFrame (collected (good.set 0 0x61)).mem.fbufRead) ∧
    collectingOk (collected (good.set 0 0x32)) ∧ ¬GoodFrame (collected (good.set 0 0x32)).mem.fbufRead := by
  unfold collectingOk
  exact ⟨by decide, by decide, ⟨by decide, by decide⟩, by decide, by decide⟩

theorem witness_HexValueTable :
    (0x30 ≤ (0x39 : Byte).toNat ∧ (0x39 : Byte).toNat ≤ 0x39) ∧ (0x41 ≤ (0x41 : Byte).toNat ∧ (0x41 : Byte).toNat ≤ 0x46) ∧
    ¬HexDigit 0x3A ∧ ¬HexDigit 0x40 ∧ ¬HexDigit 0x47 ∧ ¬HexDigit 0x2F := by decide

/-- SingleBitErrorIsRejected, also with a 'C' of which bit 6 is flipped: 0x43 to 0x03 (log entry 18). -/
theorem witness_SingleBitErrorIsRejected :
    (State.reset.CodesOk ∧ State.reset.Enabled ∧ State.reset.faState = FaState.idle.code) ∧
    (good.length = 12 ∧ GoodFrame (fun k => good.getD k 0)) ∧ State.reset.cfg.fcap = 12 ∧
    GoodFrame (fun k => (List.replicate 12 (0x43 : Byte)).getD k 0) ∧ (0x43 : Byte) ^^^ (1#8 <<< 6) = 0x03 := by decide

/-- TwelveByteFrameIsJudged: a good frame and one that is not. -/
theorem witness_TwelveByteFrameIsJudged :
    (State.reset.CodesOk ∧ State.reset.Enabled ∧ State.reset.faState = FaState.idle.code) ∧
    (good.length = 12 ∧ ∀ b ∈ good, isAscii b = true ∧ b ≠ 0x03) ∧ GoodFrame (fun k => good.getD k 0) ∧
    (∀ b ∈ good.set 11 0x39, isAscii b = true ∧ b ≠ 0x03) ∧ ¬GoodFrame (fun k => (good.set 11 0x39).getD k 0) := by
  decide

theorem witness_UnterminatedFrameHalts :
    (State.reset.CodesOk ∧ State.reset.Enabled ∧ State.reset.faState = FaState.idle.code) ∧
    (good ++ [0x02]).length = State.reset.cfg.fcap + 1 ∧ ∀ b ∈ good ++ [0x02], isAscii b = true ∧ b ≠ 0x03 := by decide

theorem witness_RxsRunsEachByte :
    (State.reset.CodesOk ∧ ∀ b ∈ ([] : List Byte), isAscii b = true) ∧
    stopped.CodesOk ∧ ∀ b ∈ ([0x7F, 0x00] : List Byte), isAscii b = true := by decide

theorem witness_AcceptedFrameIsFrozen :
    (feeding (arrived tracking) [0x402]).faState = FaState.accepted.code ∧
    (∃ t, step (feeding (arrived tracking) [0x402]) = .next t) ∧ (feeding (arrived tracking) [0x402]).Next (.rxb 0x02) :=
  ⟨rfl, exists_of_steps (by decide), next_of_head 0x402 [] rfl (by decide)⟩

/-- FrameValidIsOneShot: the acceptance raises it and RST lowers it. -/
theorem witness_FrameValidIsOneShot :
    gives (step (feeding (collected good) [0x403])) (fun t => t.frameValid != (collected good).frameValid) = true ∧
    gives (step (feeding (displaying 1) [0xC00])) (fun t => t.frameValid != (displaying 1).frameValid) = true := by decide

/-- SearchSpinRecordsAndSpins: suppressed, the last free entry, and a full log. -/
theorem witness_SearchSpinRecordsAndSpins :
    (State.reset.CodesOk ∧ State.reset.At .searching .decide ∧ State.reset.suppress = true) ∧
    ({ State.reset with suppress := false, cursor := 254 } : State).CodesOk ∧
    254 < State.reset.cfg.cap ∧ State.reset.cfg.cap = 255 := by decide

/-- DwellTickCountsDown in each phase, at the last tick and before it. -/
theorem witness_DwellTickCountsDown :
    ((dwelling .searching 2).CodesOk ∧ (dwelling .searching 2).sub = Sub.dwell.code) ∧
    (dwelling .searching 2).phase = Phase.searching.code ∧
    ((dwelling .tracking 1).CodesOk ∧ (dwelling .tracking 1).sub = Sub.dwell.code) ∧
    (dwelling .tracking 1).phase = Phase.tracking.code ∧
    ((dwelling .returning 3).CodesOk ∧ (dwelling .returning 3).sub = Sub.dwell.code) ∧
    (dwelling .returning 3).phase = Phase.returning.code := by decide

theorem witness_SearchCheckMatchesCenter :
    ((dwelling .searching 1).CodesOk ∧ (dwelling .searching 1).At .searching .dwell ∧
      (dwelling .searching 1).dwellCnt = 1) ∧
    (195 : Byte) = State.reset.cfg.center ∧ ¬((dwelling .searching 1).cap1 = State.reset.cfg.center) := by decide

/-- TrackDecideTakesItsBranch: samples of each branch, and the full log. -/
theorem witness_TrackDecideTakesItsBranch :
    (tracking.CodesOk ∧ tracking.At .tracking .decide ∧ tracking.frameValid = false ∧ tracking.cursor < tracking.cfg.cap) ∧
    ((arrived tracking).CodesOk ∧ (arrived tracking).At .tracking .decide ∧ (arrived tracking).frameValid = true) ∧
    ((0 : Byte) = tracking.cfg.lost1 ∧ (5 : Byte) ≤ tracking.cfg.lost2Max ∧ ¬((6 : Byte) ≤ tracking.cfg.lost2Max)) ∧
    (195 : Byte) = tracking.cfg.center ∧ ((195 : Byte) < 196 ∧ (6 : Byte) ≠ tracking.cfg.center) ∧
    tracking.cfg.cap = 255 := by decide

/-- RampTickLowersBothPowers and RampTakesTheLargerPower: a ramp that completes and one that goes on, in each phase. -/
theorem witness_RampTickLowersBothPowers :
    ((ramping .tracking 1 1).CodesOk ∧ (ramping .tracking 1 1).sub = Sub.ramp.code ∧
      (ramping .tracking 1 1).phase = Phase.tracking.code) ∧
    ((ramping .arrived 2 0).CodesOk ∧ (ramping .arrived 2 0).phase = Phase.arrived.code ∧
      ¬((ramping .arrived 2 0).pwrL.toNat ≤ 1 ∧ (ramping .arrived 2 0).pwrR.toNat ≤ 1)) ∧
    (ramping .returning 0 0).CodesOk ∧ (ramping .returning 0 0).phase = Phase.returning.code := by decide

theorem witness_RampTakesTheLargerPower :
    (ramping .tracking 93 95).CodesOk ∧ (ramping .tracking 93 95).sub = Sub.ramp.code ∧
    94 < max (ramping .tracking 93 95).pwrL.toNat (ramping .tracking 93 95).pwrR.toNat := by decide

theorem witness_DwellLastsItsCount :
    ((dwelling .tracking 3).CodesOk ∧ (dwelling .tracking 3).sub = Sub.dwell.code ∧ 2 < (dwelling .tracking 3).dwellCnt) ∧
    (dwelling .returning 1).CodesOk ∧ (dwelling .returning 1).phase = Phase.returning.code ∧
    1 ≤ (dwelling .returning 1).dwellCnt := by decide

/-- ReturnStepIssuesTheInverse: the last record, none left, and an index above the cursor. -/
theorem witness_ReturnStepIssuesTheInverse :
    (replaying.CodesOk ∧ replaying.At .returning .decide) ∧
    (1 ≤ replaying.ridx ∧ replaying.ridx ≤ replaying.cursor ∧ replaying.mem.logRead replaying.ridx = some .adjustRight) ∧
    ({ replaying with ridx := 0 } : State).CodesOk ∧
    ({ replaying with ridx := 3 } : State).cursor < ({ replaying with ridx := 3 } : State).ridx := by decide

theorem witness_ReplayIsReversedInverses :
    replaying.Inv ∧ replaying.At .returning .decide ∧ 1 < replaying.ridx ∧
    ({ replaying with ridx := 0, cursor := 0 } : State).Inv :=
  ⟨by decide, by decide, by decide, by decide⟩

theorem witness_HeartbeatTogglesEveryHbTicks :
    ((displaying 1).CodesOk ∧ (displaying 1).At .displaying .decide) ∧ (displaying 2).CodesOk ∧
    (displaying 2).hbCnt = (displaying 2).cfg.hbTicks ∧ 1 < (displaying 2).cfg.hbTicks := by decide

theorem witness_HaltedIsLeftOnlyByReset :
    (stopped.CodesOk ∧ stopped.phase = Phase.halted.code) ∧ (feeding stopped [0x800]).phase = Phase.halted.code ∧
    steps (feeding stopped [0x800]) = true := by decide

/-- PhaseChangesFollowTheGraph, FatalEntryIsPrecise, FlagsChangeOnlyAsTheirRulesSay: a step on every edge of the graph. -/
theorem witness_PhaseChangesFollowTheGraph :
    gives (step (feeding { dwelling .searching 1 with cap1 := 195, cap2 := 195 } [0x800]))
      (fun t => t.phase == 0b001 && !t.suppress) = true ∧
    gives (step (feeding tracking [0x800])) (fun t => t.phase == 0b000) = true ∧
    gives (step (feeding { arrived tracking with eventsEn := true } [0x800]))
      (fun t => t.phase == 0b010 && !t.eventsEn) = true ∧
    gives (step (feeding (ramping .arrived 1 1) [0x800])) (fun t => t.phase == 0b011) = true ∧
    gives (step (feeding (ramping .returning 1 0) [0x800])) (fun t => t.phase == 0b100) = true ∧
    gives (step (feeding (displaying 1) [0xC00])) (fun t => t.phase == 0b000) = true := by decide

theorem witness_FatalEntryIsPrecise :
    gives (step (feeding { tracking with cursor := 255, cap1 := 195, cap2 := 195 } [0x800]))
      (fun t => t.phase == 0b101 && t.fatalCode == 1) = true ∧
    gives (step (feeding (collected good) [0x438])) (fun t => t.phase == 0b101 && t.fatalCode == 2) = true := by decide

/-- RecordsAreAppended at the last free entry and on the full log. -/
theorem witness_RecordsAreAppended :
    ({ State.reset with cursor := 254 } : State).cursor < State.reset.cfg.cap ∧
    ({ State.reset with cursor := 255 } : State).cursor = State.reset.cfg.cap := by decide

/-- LogIsAppendOnly: a step that appends the last record. -/
theorem witness_LogIsAppendOnly :
    ({ tracking with cursor := 254 } : State).cursor ≤ tracking.cfg.cap ∧
    gives (step (feeding { tracking with cursor := 254, cap1 := 195, cap2 := 195 } [0x800])) (fun t => t.cursor == 255) =
      true := by decide

theorem witness_InverseTable : State.reset.cfg.rom = defaultRom := by decide

theorem witness_InversionIsUndone : inv .adjustLeft = inv .adjustLeft := rfl

theorem witness_OutputsFollowTheState : 9 < 10 ∧ (displaying 2).frameValid = true ∧ State.reset.frameValid = false := by
  decide

theorem witness_DefaultPrimitiveTable : ({ State.reset with prim := 0x3 } : State).cfg.rom = defaultRom := by decide

/-- DutyLaw at the ends of the range, in both directions. -/
theorem witness_DutyLaw :
    (({ State.reset with pwrL := 100, dirL := true, pwrR := 0 } : State).pwrL.toNat ≤ 100 ∧
      ({ State.reset with pwrL := 100, dirL := true, pwrR := 0 } : State).pwrR.toNat ≤ 100) ∧
    ({ State.reset with pwrL := 0, pwrR := 100, dirR := true } : State).pwrR.toNat ≤ 100 := by decide

/-- StrobesMarkTheirTransaction: a step for each strobe. -/
theorem witness_StrobesMarkTheirTransaction :
    (feeding (ramping .returning 1 0) [0x800]).Next .tick ∧
    gives (step (feeding (ramping .returning 1 0) [0x800])) (fun t => t.dispEvt == 0b001) = true ∧
    (feeding (collected []) [0x403]).Next (.rxb 0x03) ∧
    gives (step (feeding (collected []) [0x403])) (fun t => t.dispEvt == 0b010) = true ∧
    (feeding (collected good) [0x438]).Next (.rxb 0x38) ∧
    gives (step (feeding (collected good) [0x438])) (fun t => t.dispEvt == 0b100) = true :=
  ⟨next_of_head 0x800 [] rfl (by decide), by decide, next_of_head 0x403 [] rfl (by decide), by decide,
    next_of_head 0x438 [] rfl (by decide), by decide⟩

theorem witness_EdgeCaptureReachesItsDecision :
    (dwelling .searching 1).CodesOk ∧ (dwelling .searching 1).Enabled ∧ (dwelling .searching 1).At .searching .dwell ∧
    (dwelling .searching 1).dwellCnt = 1 := by decide

theorem witness_RstLoadsTheResetState :
    (⟨true, some 195, none, some 2, true⟩ : Edge).rst = true ∧ stopped.input = [] ∧ stopped.mem.log = [] := by decide

/-- The invariant holds in a state of every phase, so that the statements that assume it say something of each. -/
theorem witness_Inv :
    State.reset.Inv ∧ ({ tracking with cap1 := 6 } : State).Inv ∧ (ramping .arrived 93 95).Inv ∧ replaying.Inv ∧
    (displaying 2).Inv ∧ stopped.Inv :=
  ⟨by decide, by decide, by decide, by decide, by decide, by decide⟩

/-- StepKeepsTheInvariant and NoStepFaultsUnderTheInvariant: a step from such a state, and a word that is refused. -/
theorem witness_StepKeepsTheInvariant :
    (feeding replaying [0x800]).Inv ∧ steps (feeding replaying [0x800]) = true ∧
    (feeding State.reset [0x602]).Inv ∧ step (feeding State.reset [0x602]) = .refused (.reservedWord 0x602) :=
  ⟨by decide, by decide, by decide, rfl⟩

/-- ReachableStatesSatisfyR41: three steps from reset. -/
theorem witness_ReachableStatesSatisfyR41 :
    ∃ t, Host.Core.run Sys2Proof.core 3 { State.powerOn exampleConfig with input := [0x800, 0x1C3, 0x402] } = .next t :=
  ⟨_, rfl⟩

theorem witness_TicksComplete : State.reset.Inv ∧ (displaying 1).Inv ∧ 1 ≤ 1 :=
  ⟨by decide, by decide, by decide⟩

/-- EndedRunsStayEnded: both ways a run ends, each with a step. -/
theorem witness_EndedRunsStayEnded :
    ((feeding (displaying 1) [0x800]).Inv ∧ (feeding (displaying 1) [0x800]).Ended ∧
      steps (feeding (displaying 1) [0x800]) = true) ∧
    (feeding stopped [0x402]).Inv ∧ (feeding stopped [0x402]).Ended ∧ steps (feeding stopped [0x402]) = true :=
  ⟨⟨by decide, by decide, by decide⟩, by decide, by decide, by decide⟩

theorem witness_CountersFitTheirWidths : (displaying 2).Inv ∧ hbWidth State.reset.cfg.toParams = 2 := by decide

end Sys2Proof.Tests
end

section
/-! PROOF. What one step can do, said once: an effect for each branch of each micro-operation and assembler step, with
the guards under which it is taken. Every proof about `step` goes through `stepEffect_of_step`. -/

namespace Sys2Proof

/-- The phase and step in which a micro-operation is selected (30_encoding.md R76). -/
def MicroOp.home : MicroOp → Phase × Sub
  | .searchSpin => (.searching, .decide)
  | .searchDwell => (.searching, .dwell)
  | .searchCheck => (.searching, .dwell)
  | .trackDecide => (.tracking, .decide)
  | .dwellTickTracking => (.tracking, .dwell)
  | .rampTickTracking => (.tracking, .ramp)
  | .rampTickArrived => (.arrived, .ramp)
  | .returnStep => (.returning, .decide)
  | .dwellTickReturning => (.returning, .dwell)
  | .rampTickReturning => (.returning, .ramp)
  | .displayTick => (.displaying, .decide)
  | .haltTick => (.halted, .decide)

/-- The phases in which a primitive is held for a dwell (10_state.md R41). -/
abbrev Phase.Dwells (ph : Phase) : Prop := ph = .searching ∨ ph = .tracking ∨ ph = .returning

/-- The phases in which a Stop ramps down (10_state.md R41). -/
abbrev Phase.Ramps (ph : Phase) : Prop := ph = .tracking ∨ ph = .arrived ∨ ph = .returning

end Sys2Proof

namespace Sys2Proof.Machine

open Sys2Proof

/-! ### The state a transaction of the stream starts from -/

/-- The state in which the body of the next transaction runs: its word taken, the strobes cleared. -/
def State.started (s : State) : State := s.wordTaken.begun

theorem State.started_eq (s : State) : s.started = { s with input := s.input.tail, dispEvt := 0 } := rfl

/-- `s` with one more record in the log, the writes of APPEND on a log with room (43_pathlog.md R180). -/
def State.recorded (s : State) (tag : Tag) : State :=
  { s with cursor := s.cursor + 1, mem := s.mem.logWrite (s.cursor + 1) tag }

/-! ### The micro-operations of a TICK -/

/-- A micro-operation is selected only at its home. -/
theorem at_home_of_tickSel {s : State} {last : Bool} {m : MicroOp} (h : tickSel s.stateVector last = some m) :
    s.At m.home.1 m.home.2 := by
  have selected : ∀ (v : BitVec 5) (last : Bool), ∀ m ∈ tickSel v last, v = m.home.1.code ++ m.home.2.code := by
    decide
  exact (s.stateVector_eq_iff _ _).1 (selected _ _ _ h)

/-- The decisions that record: SEARCH_SPIN after the first match, and four branches of TRACK_DECIDE, each with the
record it appends and the primitive it then issues (42_navigation.md R142, R145, R148 to R151). -/
inductive Records (s : State) : Tag → RomPrim → Prop
  | spin (hat : s.At .searching .decide) (hs : s.suppress = false) : Records s .spinSearch .spinLeft
  | centered (hat : s.At .tracking .decide)
      (hb : trackBranch s.cfg.toParams s.frameValid s.cap1 s.cap2 = .centered) :
      Records s .straightForward .straightFwd
  | right (hat : s.At .tracking .decide)
      (hb : trackBranch s.cfg.toParams s.frameValid s.cap1 s.cap2 = .right) : Records s .adjustRight .gentleRightFwd
  | left (hat : s.At .tracking .decide)
      (hb : trackBranch s.cfg.toParams s.frameValid s.cap1 s.cap2 = .left) : Records s .adjustLeft .gentleLeftFwd
  | equal (hat : s.At .tracking .decide)
      (hb : trackBranch s.cfg.toParams s.frameValid s.cap1 s.cap2 = .equal) : Records s .straightForward .straightFwd

/-- Records are made by the decisions of SEARCHING and TRACKING alone (43_pathlog.md R180). -/
theorem Records.phase_eq {s : State} {tag : Tag} {p : RomPrim} (h : Records s tag p) :
    s.phase = Phase.searching.code ∨ s.phase = Phase.tracking.code := by
  cases h with
  | spin hat => exact .inl hat.1
  | centered hat | right hat | left hat | equal hat => exact .inr hat.1

/-- Everything the body of a TICK can answer in `s`, a constructor for each branch of each micro-operation
(42_navigation.md R142 to R156, 40_actuation.md R107). -/
inductive TickEffect (s : State) : State → Prop
  | spins (hat : s.At .searching .decide) (hs : s.suppress = true) : TickEffect s (issueAndHold .spinLeft s)
  | records {tag : Tag} {p : RomPrim} (hr : Records s tag p) (hroom : s.cursor < s.cfg.cap) :
      TickEffect s (issueAndHold p (s.recorded tag))
  | overflows {tag : Tag} {p : RomPrim} (hr : Records s tag p) (hfull : s.cfg.cap ≤ s.cursor) :
      TickEffect s (fatalEntry .pathlogOverflow s)
  | dwells {ph : Phase} (hph : ph.Dwells) (hat : s.At ph .dwell) (hcnt : 2 ≤ s.dwellCnt) :
      TickEffect s { s with dwellCnt := s.dwellCnt - 1 }
  | checkMatches (hat : s.At .searching .dwell) (hcnt : s.dwellCnt = 1) (h1 : s.cap1 = s.cfg.center)
      (h2 : s.cap2 = s.cfg.center) :
      TickEffect s (startStop { s with dwellCnt := 0, suppress := false, phase := Phase.tracking.code })
  | dwellEnds {ph : Phase} (hph : ph.Dwells) (hat : s.At ph .dwell) (hcnt : s.dwellCnt = 1)
      (hmiss : ph = .searching → ¬(s.cap1 = s.cfg.center ∧ s.cap2 = s.cfg.center)) :
      TickEffect s { s with dwellCnt := 0, sub := Sub.decide.code }
  | arrives (hat : s.At .tracking .decide) (hv : s.frameValid = true) : TickEffect s (arrive s)
  | loses (hat : s.At .tracking .decide)
      (hb : trackBranch s.cfg.toParams s.frameValid s.cap1 s.cap2 = .lost) :
      TickEffect s (s.setPc .searching .decide)
  | ramps {ph : Phase} (hph : ph.Ramps) (hat : s.At ph .ramp)
      (hgo : ¬((rampPowers s).pwrL = 0 ∧ (rampPowers s).pwrR = 0)) : TickEffect s (rampPowers s)
  | rampEndsTracking (hat : s.At .tracking .ramp) (hL : (rampPowers s).pwrL = 0) (hR : (rampPowers s).pwrR = 0) :
      TickEffect s (rampDoneTracking (rampPowers s))
  | rampEndsArrived (hat : s.At .arrived .ramp) (hL : (rampPowers s).pwrL = 0) (hR : (rampPowers s).pwrR = 0) :
      TickEffect s (rampDoneArrived (rampPowers s))
  | rampEndsReturning (hat : s.At .returning .ramp) (hL : (rampPowers s).pwrL = 0) (hR : (rampPowers s).pwrR = 0) :
      TickEffect s (rampDoneReturning (rampPowers s))
  | stops (hat : s.At .returning .decide) (hend : s.ridx = 0) : TickEffect s (startStop s)
  | replays {tag : Tag} (hat : s.At .returning .decide) (hr : s.ridx ≠ 0) (htag : s.logEntry s.ridx = some tag) :
      TickEffect s { issueAndHold (inv tag) s with ridx := s.ridx - 1 }
  | toggles (hat : s.At .displaying .decide) (hcnt : s.hbCnt = 1) :
      TickEffect s { s with hb := !s.hb, hbCnt := s.cfg.hbTicks }
  | counts (hat : s.At .displaying .decide) (hcnt : 2 ≤ s.hbCnt) : TickEffect s { s with hbCnt := s.hbCnt - 1 }
  | rests (hat : s.At .halted .decide) : TickEffect s s

/-- Both samples at the threshold (42_navigation.md R144). -/
theorem centered_iff (c : Params) (c1 c2 : Byte) : centered c c1 c2 = true ↔ c1 = c.center ∧ c2 = c.center := by
  simp [centered]

/-- TRACK_DECIDE takes its first branch exactly on a valid frame (42_navigation.md R145). -/
theorem trackBranch_eq_arrive_iff (c : Params) (fv : Bool) (c1 c2 : Byte) :
    trackBranch c fv c1 c2 = .arrive ↔ fv = true := by
  unfold trackBranch
  cases fv
  · simp only [Bool.false_eq_true, if_false, iff_false]
    split_ifs <;> decide
  · simp

/-- A recording decision appends and issues, or overflows. -/
theorem TickEffect.of_appendThen {s : State} {tag : Tag} {p : RomPrim} (hr : Records s tag p) :
    TickEffect s (appendThen tag (issueAndHold p) s) := by
  obtain ⟨hfull, heq⟩ | ⟨hroom, heq⟩ := appendThen_cases tag (issueAndHold p) s
  · rw [heq]
    exact .overflows hr (by simpa [State.logFull] using hfull)
  · rw [heq]
    exact .records hr (by simpa [State.logFull] using hroom)

theorem TickEffect.of_searchSpin {s : State} (hat : s.At .searching .decide) : TickEffect s (searchSpinBody s) := by
  unfold searchSpinBody
  split
  · next hs => exact .spins hat hs
  · next hs => exact .of_appendThen (.spin hat (by simpa using hs))

theorem TickEffect.of_trackDecide {s : State} (hat : s.At .tracking .decide) :
    TickEffect s (trackDecideBody s) := by
  unfold trackDecideBody
  split
  · next hb => exact .arrives hat ((trackBranch_eq_arrive_iff ..).1 hb)
  · next hb => exact .loses hat hb
  · next hb => exact .of_appendThen (.centered hat hb)
  · next hb => exact .of_appendThen (.right hat hb)
  · next hb => exact .of_appendThen (.left hat hb)
  · next hb => exact .of_appendThen (.equal hat hb)

/-- A dwell tick of SEARCHING counts, or ends in SEARCH_CHECK. -/
theorem TickEffect.of_searchDwell {s t : State} (hat : s.At .searching .dwell)
    (h : dwellBody searchCheckBody s = .next t) : TickEffect s t := by
  obtain ⟨hcnt, rfl⟩ | ⟨hcnt, rfl⟩ := dwellBody_cases h
  · unfold searchCheckBody
    split
    · next hc =>
      obtain ⟨h1, h2⟩ := (centered_iff ..).1 hc
      exact .checkMatches hat hcnt h1 h2
    · next hc => exact .dwellEnds (.inl rfl) hat hcnt fun _ hm => hc ((centered_iff ..).2 hm)
  · exact .dwells (.inl rfl) hat hcnt

/-- A dwell tick of TRACKING or RETURNING counts, or goes back to the decision. -/
theorem TickEffect.of_dwell {s t : State} {ph : Phase} (hph : ph = .tracking ∨ ph = .returning)
    (hat : s.At ph .dwell) (h : dwellBody dwellDone s = .next t) : TickEffect s t := by
  obtain ⟨hcnt, rfl⟩ | ⟨hcnt, rfl⟩ := dwellBody_cases h
  · refine .dwellEnds (.inr hph) hat hcnt ?_
    rintro rfl
    simp at hph
  · exact .dwells (.inr hph) hat hcnt

/-- A ramp tick lowers the powers, and ends as its phase does. -/
theorem TickEffect.of_ramp {s : State} {ph : Phase} {done : State → State} (hph : ph.Ramps) (hat : s.At ph .ramp)
    (hend : (rampPowers s).pwrL = 0 → (rampPowers s).pwrR = 0 → TickEffect s (done (rampPowers s))) :
    TickEffect s (rampStep done s) := by
  obtain ⟨hL, hR, heq⟩ | ⟨hgo, heq⟩ := rampStep_cases done s
  · rw [heq]
    exact hend hL hR
  · rw [heq]
    exact .ramps hph hat hgo

/-- The body of a TICK has one of the effects. -/
theorem tickEffect_of_tickBody {s t : State} (h : tickBody s = .next t) : TickEffect s t := by
  obtain ⟨m, hm, h⟩ := tickBody_cases h
  have hat := at_home_of_tickSel hm
  cases m with
  | searchSpin => cases h; exact .of_searchSpin hat
  | searchDwell => exact .of_searchDwell hat h
  | searchCheck => exact .of_searchDwell hat h
  | trackDecide => cases h; exact .of_trackDecide hat
  | dwellTickTracking => exact .of_dwell (.inl rfl) hat h
  | rampTickTracking => cases h; exact .of_ramp (.inl rfl) hat (.rampEndsTracking hat)
  | rampTickArrived => cases h; exact .of_ramp (.inr (.inl rfl)) hat (.rampEndsArrived hat)
  | returnStep =>
    obtain ⟨hend, rfl⟩ | ⟨tag, hr, htag, rfl⟩ := returnStepBody_cases h
    · exact .stops hat hend
    · exact .replays hat hr htag
  | dwellTickReturning => exact .of_dwell (.inr rfl) hat h
  | rampTickReturning => cases h; exact .of_ramp (.inr (.inr rfl)) hat (.rampEndsReturning hat)
  | displayTick =>
    obtain ⟨hcnt, rfl⟩ | ⟨hcnt, rfl⟩ := displayBody_cases h
    · exact .toggles hat hcnt
    · exact .counts hat hcnt
  | haltTick => cases h; exact .rests hat

/-! ### The steps of the assembler -/

/-- Everything the body of an RXB of `b` can answer in `s` (44_frame.md R200 to R207, R215). -/
inductive RxEffect (b : Byte) (s : State) : State → Prop
  | disabled (hoff : ¬s.Enabled) : RxEffect b s s
  | starts (hon : s.Enabled) (hfa : s.faState = FaState.idle.code) (hb : b = stx) : RxEffect b s (rxStartBody s)
  | ignoresIdle (hon : s.Enabled) (hfa : s.faState = FaState.idle.code) (hb : b ≠ stx) : RxEffect b s s
  | accepts (hon : s.Enabled) (hfa : s.faState = FaState.collecting.code) (hb : b = etx)
      (hgood : s.frameGood = true) : RxEffect b s (accept s)
  | rejects (hon : s.Enabled) (hfa : s.faState = FaState.collecting.code) (hb : b = etx)
      (hbad : s.frameGood = false) : RxEffect b s (reject s)
  | collects (hon : s.Enabled) (hfa : s.faState = FaState.collecting.code) (hb : b ≠ etx)
      (hroom : s.flen < s.cfg.fcap) : RxEffect b s (rxCollectBody b s)
  | overflows (hon : s.Enabled) (hfa : s.faState = FaState.collecting.code) (hb : b ≠ etx)
      (hfull : s.cfg.fcap ≤ s.flen) : RxEffect b s (fatalEntry .frameOverflow s)
  | ignoresAccepted (hon : s.Enabled) (hfa : s.faState = FaState.accepted.code) : RxEffect b s s

/-- The selected step of the assembler has one of the effects. -/
theorem RxEffect.of_rxSel {b : Byte} {s : State} {op : RxOp} (hon : s.Enabled)
    (h : rxSel s.faState b s.frameFull = some op) : RxEffect b s (rxOpBody op b s) := by
  unfold rxSel at h
  split at h
  · next hfa =>
    split at h
    · next hb => cases h; exact .starts hon hfa hb
    · next hb => cases h; exact .ignoresIdle hon hfa hb
  · split at h
    · next hfa =>
      split at h
      · next hb =>
        cases h
        simp only [rxOpBody, rxEvaluateBody]
        split
        · next hgood => exact .accepts hon hfa hb hgood
        · next hbad => exact .rejects hon hfa hb (by simpa using hbad)
      · next hb =>
        split at h
        · next hfull => cases h; exact .overflows hon hfa hb (by simpa [State.frameFull] using hfull)
        · next hroom => cases h; exact .collects hon hfa hb (by simpa [State.frameFull] using hroom)
    · split at h
      · next hfa => cases h; exact .ignoresAccepted hon hfa
      · cases h

/-- The body of an RXB has one of the effects. -/
theorem rxEffect_of_receiveBody {b : Byte} {s t : State} (h : receiveBody b s = .next t) : RxEffect b s t := by
  obtain ⟨hon, op, hop, rfl⟩ | ⟨hoff, rfl⟩ := receiveBody_cases h
  · exact .of_rxSel (s.producersEnabled_iff.1 hon) hop
  · exact .disabled (t.producersEnabled_eq_false_iff.1 hoff)

/-! ### The step -/

/-- Everything a step from `s` can answer: nothing without a word, and otherwise the transaction of the word. -/
inductive StepEffect (s : State) : State → Prop
  | idles (hin : s.input = []) (hok : s.CodesOk) : StepEffect s s
  | captures {r : Receiver} {v : Byte} (hnext : s.Next (.cap r v)) (hok : s.CodesOk) (hon : s.Enabled) :
      StepEffect s (s.started.writeCapture r v)
  | ignoresCapture {r : Receiver} {v : Byte} (hnext : s.Next (.cap r v)) (hok : s.CodesOk) (hoff : ¬s.Enabled) :
      StepEffect s s.started
  | receives {b : Byte} {t : State} (hnext : s.Next (.rxb b)) (hok : s.CodesOk) (he : RxEffect b s.started t) :
      StepEffect s t
  | ticks {t : State} (hnext : s.Next .tick) (hok : s.CodesOk) (he : TickEffect s.started t) : StepEffect s t
  | resets (hnext : s.Next .rst) : StepEffect s (resetState s.wordTaken)

/-- A step that answers a next state has one of the effects. -/
theorem stepEffect_of_step {s t : State} (h : step s = .next t) : StepEffect s t := by
  obtain ⟨hin, hok, rfl⟩ | ⟨w, rest, i, hin, hi, hx⟩ := step_cases h
  · exact .idles hin hok
  have hnext : s.Next i := ⟨w, rest, hin, hi⟩
  have htaken : ({ s with input := rest } : State) = s.wordTaken := by simp [State.wordTaken, hin]
  rw [htaken] at hx
  obtain ⟨r, v, rfl⟩ | ⟨b, rfl⟩ | rfl | rfl := decodeWord_cases hi
  · obtain ⟨hok, hbody⟩ := transaction_eq_next hx
    obtain ⟨hon, heq⟩ | ⟨hoff, heq⟩ := captureBody_cases r v s.wordTaken.begun
    · cases heq.symm.trans hbody
      exact .captures hnext hok (s.producersEnabled_iff.1 hon)
    · cases heq.symm.trans hbody
      exact .ignoresCapture hnext hok (s.producersEnabled_eq_false_iff.1 hoff)
  · obtain ⟨hok, hbody⟩ := transaction_eq_next hx
    exact .receives hnext hok (rxEffect_of_receiveBody hbody)
  · obtain ⟨hok, hbody⟩ := transaction_eq_next hx
    exact .ticks hnext hok (tickEffect_of_tickBody hbody)
  · cases hx
    exact .resets hnext

end Sys2Proof.Machine
end

section
/-! PROOF. The samples, the flags and the log: what an effect leaves of each, and the three statements that follow. -/

namespace Sys2Proof.Machine

open Sys2Proof

/-! ### The samples -/

theorem TickEffect.samples_eq {s t : State} (h : TickEffect s t) : t.cap1 = s.cap1 ∧ t.cap2 = s.cap2 := by
  cases h <;> exact ⟨rfl, rfl⟩

theorem RxEffect.samples_eq {b : Byte} {s t : State} (h : RxEffect b s t) : t.cap1 = s.cap1 ∧ t.cap2 = s.cap2 := by
  cases h <;> exact ⟨rfl, rfl⟩

/-- Settles O12: of the effects of a step, only an effective CAP and RST write a sample. -/
theorem onlyCapAndRstWriteSamples : Obligations.OnlyCapAndRstWriteSamples := by
  intro s t h
  cases stepEffect_of_step h with
  | idles => exact ⟨.inl rfl, .inl rfl⟩
  | @captures r v hnext _ hon =>
    cases r with
    | first => exact ⟨.inr (.inl ⟨v, hnext, hon, rfl⟩), .inl rfl⟩
    | second => exact ⟨.inl rfl, .inr (.inl ⟨v, hnext, hon, rfl⟩)⟩
  | ignoresCapture => exact ⟨.inl rfl, .inl rfl⟩
  | receives _ _ he => exact he.samples_eq.imp .inl .inl
  | ticks _ _ he => exact he.samples_eq.imp .inl .inl
  | resets hnext => exact ⟨.inr (.inr ⟨hnext, rfl⟩), .inr (.inr ⟨hnext, rfl⟩)⟩

/-! ### The flags -/

/-- A TICK changes `suppress` only in the first match, which clears it (42_navigation.md R144, R158). -/
theorem TickEffect.suppress_cases {s t : State} (h : TickEffect s t) :
    t.suppress = s.suppress ∨ (t.suppress = false ∧ s.phase = Phase.searching.code ∧
      t.phase = Phase.tracking.code ∧ s.cap1 = s.cfg.center ∧ s.cap2 = s.cfg.center) := by
  cases h with
  | checkMatches hat _ h1 h2 => exact .inr ⟨rfl, hat.1, rfl, h1, h2⟩
  | _ => exact .inl rfl

theorem RxEffect.suppress_eq {b : Byte} {s t : State} (h : RxEffect b s t) : t.suppress = s.suppress := by
  cases h <;> rfl

/-- A TICK changes `events_en` only in ARRIVE and the fatal entry, which clear it (42_navigation.md R152,
60_exceptions.md R232). -/
theorem TickEffect.eventsEn_cases {s t : State} (h : TickEffect s t) :
    t.eventsEn = s.eventsEn ∨
      (t.eventsEn = false ∧ (t.phase = Phase.arrived.code ∨ t.phase = Phase.halted.code)) := by
  cases h with
  | arrives => exact .inr ⟨rfl, .inl rfl⟩
  | overflows => exact .inr ⟨rfl, .inr rfl⟩
  | _ => exact .inl rfl

/-- An RXB changes `events_en` only in the fatal entry (60_exceptions.md R232). -/
theorem RxEffect.eventsEn_cases {b : Byte} {s t : State} (h : RxEffect b s t) :
    t.eventsEn = s.eventsEn ∨ (t.eventsEn = false ∧ t.phase = Phase.halted.code) := by
  cases h with
  | overflows => exact .inr ⟨rfl, rfl⟩
  | _ => exact .inl rfl

/-- `suppress` is cleared by a match in SEARCHING and set by RST alone. -/
theorem suppress_changes {s t : State} (h : step s = .next t) (hne : t.suppress ≠ s.suppress) :
    (s.suppress = false ∧ s.Next .rst) ∨
    (s.suppress = true ∧ s.Next .tick ∧ s.phase = Phase.searching.code ∧ t.phase = Phase.tracking.code ∧
      s.cap1 = s.cfg.center ∧ s.cap2 = s.cfg.center) := by
  cases stepEffect_of_step h with
  | idles => exact absurd rfl hne
  | captures => exact absurd (State.writeCapture_suppress ..) hne
  | ignoresCapture => exact absurd rfl hne
  | receives _ _ he => exact absurd he.suppress_eq hne
  | ticks hnext _ he =>
    obtain heq | ⟨hfalse, hmatch⟩ := he.suppress_cases
    · exact absurd heq hne
    · rw [hfalse] at hne
      exact .inr ⟨by simpa using hne.symm, hnext, hmatch⟩
  | resets hnext => exact .inl ⟨by simpa using hne.symm, hnext⟩

/-- `events_en` is cleared on entering ARRIVED or HALTED and set by RST alone. -/
theorem eventsEn_changes {s t : State} (h : step s = .next t) (hne : t.eventsEn ≠ s.eventsEn) :
    (s.eventsEn = false ∧ s.Next .rst) ∨
    (s.eventsEn = true ∧ (t.phase = Phase.arrived.code ∨ t.phase = Phase.halted.code)) := by
  cases stepEffect_of_step h with
  | idles => exact absurd rfl hne
  | captures => exact absurd (State.writeCapture_eventsEn ..) hne
  | ignoresCapture => exact absurd rfl hne
  | receives _ _ he =>
    obtain heq | ⟨hfalse, hphase⟩ := he.eventsEn_cases
    · exact absurd heq hne
    · rw [hfalse] at hne
      exact .inr ⟨by simpa using hne.symm, .inr hphase⟩
  | ticks _ _ he =>
    obtain heq | ⟨hfalse, hphase⟩ := he.eventsEn_cases
    · exact absurd heq hne
    · rw [hfalse] at hne
      exact .inr ⟨by simpa using hne.symm, hphase⟩
  | resets hnext => exact .inl ⟨by simpa using hne.symm, hnext⟩

/-- Settles O39, one flag at a time. -/
theorem flagsChangeOnlyAsTheirRulesSay : Obligations.FlagsChangeOnlyAsTheirRulesSay :=
  fun _ _ h => ⟨suppress_changes h, eventsEn_changes h⟩

/-! ### The log -/

/-- The cursor and every entry of the log are the same in `t` as in `s`. -/
def SameLog (s t : State) : Prop := t.cursor = s.cursor ∧ ∀ i, t.mem.logRead i = s.mem.logRead i

/-- `t` has one record more than `s`, within the capacity, and every entry of `s` unchanged. -/
def OneMoreRecord (s t : State) : Prop :=
  t.cursor = s.cursor + 1 ∧ t.cursor ≤ s.cfg.cap ∧ ∀ i, i ≤ s.cursor → t.mem.logRead i = s.mem.logRead i

theorem State.recorded_oneMoreRecord {s : State} {tag : Tag} (hroom : s.cursor < s.cfg.cap) :
    OneMoreRecord s (s.recorded tag) :=
  ⟨rfl, hroom, fun i hi => s.mem.logRead_logWrite_other _ i tag (by omega)⟩

/-- A TICK appends a record in SEARCHING or TRACKING, or leaves the log. -/
theorem TickEffect.log_cases {s t : State} (h : TickEffect s t) :
    SameLog s t ∨ (OneMoreRecord s t ∧ (s.phase = Phase.searching.code ∨ s.phase = Phase.tracking.code)) := by
  cases h with
  | records hr hroom => exact .inr ⟨State.recorded_oneMoreRecord hroom, hr.phase_eq⟩
  | _ => exact .inl ⟨rfl, fun _ => rfl⟩

/-- An RXB writes FBUF, never the log. -/
theorem RxEffect.sameLog {b : Byte} {s t : State} (h : RxEffect b s t) : SameLog s t := by
  cases h <;> exact ⟨rfl, fun _ => rfl⟩

/-- A step resets the cursor, appends one record, or leaves the log. -/
theorem StepEffect.log_cases {s t : State} (h : StepEffect s t) :
    (s.Next .rst ∧ t.cursor = 0 ∧ ∀ i, t.mem.logRead i = s.mem.logRead i) ∨ SameLog s t ∨
    (OneMoreRecord s t ∧ (s.phase = Phase.searching.code ∨ s.phase = Phase.tracking.code)) := by
  cases h with
  | idles => exact .inr (.inl ⟨rfl, fun _ => rfl⟩)
  | captures => exact .inr (.inl ⟨State.writeCapture_cursor .., fun _ => by simp [State.started_eq]⟩)
  | ignoresCapture => exact .inr (.inl ⟨rfl, fun _ => rfl⟩)
  | receives _ _ he => exact .inr (.inl he.sameLog)
  | ticks _ _ he => exact .inr he.log_cases
  | resets hnext => exact .inl ⟨hnext, rfl, fun _ => rfl⟩

/-- Settles O41: a step that is no RST leaves the log or appends one record to it. -/
theorem logIsAppendOnly : Obligations.LogIsAppendOnly := by
  intro s t _ h
  obtain hrst | ⟨hcur, hlog⟩ | ⟨⟨hcur, hcap, hlog⟩, hphase⟩ := (stepEffect_of_step h).log_cases
  · exact .inl hrst
  · exact .inr ⟨.inl hcur, fun i _ => hlog i, fun _ => hlog⟩
  · exact .inr ⟨.inr ⟨hcur, hcap, hphase⟩, hlog, fun heq => by omega⟩

end Sys2Proof.Machine
end

section
/-! PROOF. The invariant of 10_state.md R41, kept by every operation of the model, so by every effect of a step, so
along every run from power-on. -/

namespace Sys2Proof

open Sys2Proof.Machine

/-! ### The codes of the state fields are distinct (30_encoding.md R83, R84) -/

theorem Phase.code_inj {a b : Phase} : a.code = b.code ↔ a = b := by
  cases a <;> cases b <;> decide

theorem Sub.code_inj {a b : Sub} : a.code = b.code ↔ a = b := by
  cases a <;> cases b <;> decide

/-! ### What a legal configuration guarantees (00_scope.md R7) -/

theorem inRange_iff (lo hi n : Nat) : inRange lo hi n = true ↔ lo ≤ n ∧ n ≤ hi := by
  simp [inRange]

theorem Config.one_le (c : Config) : 1 ≤ c.adjMult ∧ 1 ≤ c.u ∧ 1 ≤ c.hbTicks := by
  have h := c.isLegal
  simp only [Params.legal, Bool.and_eq_true, inRange_iff] at h
  omega

theorem Config.power_le (c : Config) (p : RomPrim) :
    (romRow c.rom p).left.power.toNat ≤ 100 ∧ (romRow c.rom p).right.power.toNat ≤ 100 := by
  have h := c.isLegal
  simp only [Params.legal, Rom.legal, RomRow.legal, Bool.and_eq_true, decide_eq_true_eq] at h
  cases p <;> simp only [romRow] <;> tauto

/-- A dwell takes at least one tick, and at most the longest one `dwell_cnt` is made for (00_scope.md R9). -/
theorem Config.dwellTicks_bounds (c : Config) (p : RomPrim) :
    1 ≤ dwellTicks c.toParams p ∧ dwellTicks c.toParams p ≤ c.adjMult * c.u := by
  obtain ⟨hadj, hu, -⟩ := c.one_le
  unfold dwellTicks dwellMult
  split
  · exact ⟨by omega, Nat.mul_le_mul_right _ hadj⟩
  · exact ⟨Nat.mul_pos hadj hu, le_rfl⟩

end Sys2Proof

namespace Sys2Proof.Machine

open Sys2Proof

/-! ### Primitive codes, powers and memory cells -/

theorem decodePrim_code (p : RomPrim) : decodePrim p.code = some p.instr := by cases p <;> rfl

theorem satDec_le (v : BitVec 7) : (satDec v).toNat ≤ v.toNat := by
  unfold satDec
  split
  · simp
  · next hv => bv_omega

theorem mem_fbufWrite {m : Memory} {k : Nat} {b : Byte} {c : Host.Cell} (h : c ∈ (m.fbufWrite k b).fbuf) :
    c.1 = k ∨ c ∈ m.fbuf := by
  unfold Memory.fbufWrite at h
  split at h
  · exact .inr (mem_dropCell h)
  · exact (mem_putCell h).imp (congrArg Prod.fst) id

/-- A state at a selected pair of phase and step holds no reserved code when its other codes are not reserved. -/
theorem codesOk_of_at {s : State} {ph : Phase} {sb : Sub} (hat : s.At ph sb)
    (hsel : tickSel (ph.code ++ sb.code) false ≠ none) (hprim : decodePrim s.prim ≠ none)
    (hfa : rxSel s.faState 0 false ≠ none) (hfatal : s.fatalCode ≠ 3) : s.CodesOk := by
  rw [State.codesOk_iff, (s.stateVector_eq_iff ph sb).2 hat]
  exact ⟨hsel, hprim, hfa, hfatal⟩

/-! ### The state after reset -/

/-- The reset values have the invariant over any canonical log and a cleared frame buffer (10_state.md R40). -/
theorem inv_powerOn (c : Config) (ws : List Word) (log : List LogCell) (hlog : rising log)
    (hidx : ∀ e ∈ log, 1 ≤ e.1 ∧ e.1 ≤ c.cap) :
    State.Inv { State.powerOn c with mem := ⟨log, []⟩, input := ws } := by
  refine ⟨codesOk_of_at (ph := .searching) (sb := .decide) ⟨rfl, rfl⟩ (by decide)
    (by decide : decodePrim primStop ≠ none) (by decide : rxSel FaState.idle.code 0 false ≠ none) (by decide : (0 : BitVec 2) ≠ 3), ?_, ?_, ?_⟩
  · simp [State.CountersOk, State.powerOn, Sub.code_inj, Phase.code_inj]
  · simp [State.PhaseOk, State.powerOn, Sub.code_inj, Phase.code_inj, FaState.code]
  · exact ⟨⟨hlog, by simp [rising], by simp⟩, hidx, by simp, by simp [State.powerOn]⟩

theorem inv_resetState {s : State} (h : s.Inv) : (resetState s).Inv := by
  obtain ⟨-, -, -, ⟨hrise, -⟩, hidx, -⟩ := h
  exact inv_powerOn s.cfg s.input s.mem.log hrise hidx

/-! ### Operations of the control loop -/

theorem inv_fatalEntry (c : FatalCode) {s : State} (h : s.Inv) : (fatalEntry c s).Inv := by
  obtain ⟨hcodes, ⟨hcur, hridx, hflen, -, -, -, hhbMax, -, -⟩, ⟨hvalid, hacc, -, -, -, -⟩, hmem⟩ := h
  obtain ⟨-, -, hfa, -⟩ := s.codesOk_iff.1 hcodes
  have hcode : c.code ≠ 0#2 := by cases c <;> decide
  have hlegal : c.code ≠ 3 := by cases c <;> decide
  refine ⟨codesOk_of_at (ph := .halted) (sb := .decide) ⟨rfl, rfl⟩ (by decide)
      (by decide : decodePrim primHalt ≠ none) hfa hlegal,
    ⟨hcur, hridx, hflen, ?_, Nat.zero_le _, ?_, hhbMax, Nat.zero_le _, Nat.zero_le _⟩,
    ⟨hvalid, hacc, ?_, ?_, ?_, ?_⟩, hmem⟩
  all_goals simp [Phase.code_inj, Sub.code_inj, hcode]

/-- ISSUE and HOLD, in a phase that dwells. -/
theorem inv_issueAndHold (p : RomPrim) {s : State} {ph : Phase} (hph : ph.Dwells) (hphase : s.phase = ph.code)
    (h : s.Inv) : (issueAndHold p s).Inv := by
  obtain ⟨hcodes, ⟨hcur, hridx, hflen, -, -, hhb, hhbMax, -, -⟩, ⟨hvalid, hacc, -, hoff, hhalt, hsup⟩, hmem⟩ := h
  obtain ⟨-, -, hfa, hfatal⟩ := s.codesOk_iff.1 hcodes
  obtain ⟨hcnt, hcntMax⟩ := s.cfg.dwellTicks_bounds p
  obtain ⟨hL, hR⟩ := s.cfg.power_le p
  have hsel : tickSel (ph.code ++ Sub.dwell.code) false ≠ none := by
    obtain rfl | rfl | rfl := hph <;> decide
  have hprim : decodePrim (issueAndHold p s).prim ≠ none := by simp [issueAndHold, decodePrim_code]
  exact ⟨codesOk_of_at (ph := ph) (sb := .dwell) ⟨hphase, rfl⟩ hsel hprim hfa hfatal,
    ⟨hcur, hridx, hflen, fun _ => hcnt, hcntMax, hhb, hhbMax, hL, hR⟩,
    ⟨hvalid, hacc, by simp [issueAndHold, Sub.code_inj], hoff, hhalt, hsup⟩, hmem⟩

/-- START_STOP, in a phase that ramps. -/
theorem inv_startStop {s : State} {ph : Phase} (hph : ph.Ramps) (hphase : s.phase = ph.code) (h : s.Inv) :
    (startStop s).Inv := by
  obtain ⟨hcodes, ⟨hcur, hridx, hflen, -, hcntMax, hrest⟩, ⟨hvalid, hacc, -, hoff, hhalt, hsup⟩, hmem⟩ := h
  obtain ⟨-, -, hfa, hfatal⟩ := s.codesOk_iff.1 hcodes
  have hsel : tickSel (ph.code ++ Sub.ramp.code) false ≠ none := by
    obtain rfl | rfl | rfl := hph <;> decide
  exact ⟨codesOk_of_at (ph := ph) (sb := .ramp) ⟨hphase, rfl⟩ hsel (by decide : decodePrim primStop ≠ none) hfa hfatal,
    ⟨hcur, hridx, hflen, by simp [Sub.code_inj], hcntMax, hrest⟩,
    ⟨hvalid, hacc, fun _ => rfl, hoff, hhalt, hsup⟩, hmem⟩

/-- ARRIVE, in TRACKING on a valid frame. -/
theorem inv_arrive {s : State} (hphase : s.phase = Phase.tracking.code) (hv : s.frameValid = true) (h : s.Inv) :
    (arrive s).Inv := by
  obtain ⟨hcodes, ⟨hcur, -, hflen, -, hcntMax, -, hhbMax, hpow⟩, ⟨hvalid, hacc, -, -, hhalt, hsup⟩, hmem⟩ := h
  obtain ⟨-, -, hfa, hfatal⟩ := s.codesOk_iff.1 hcodes
  have hzero : s.fatalCode = 0 := by
    by_contra hne
    exact absurd (hphase.symm.trans (hhalt.2 hne)) (by decide)
  refine ⟨codesOk_of_at (ph := .arrived) (sb := .ramp) ⟨rfl, rfl⟩ (by decide) (by decide : decodePrim primStop ≠ none)
      hfa hfatal,
    ⟨hcur, le_rfl, hflen, ?_, hcntMax, ?_, hhbMax, hpow⟩,
    ⟨hvalid, hacc, fun _ => rfl, fun _ => ⟨rfl, hv⟩, ?_, fun _ => hsup (.inl hphase)⟩, hmem⟩
  all_goals simp [Phase.code_inj, Sub.code_inj, hzero]

/-- `pc <- (ph, DECIDE)` outside HALTED, into a phase whose conditions the state meets. -/
theorem inv_setPc_decide {s : State} {ph : Phase} (hne : ph ≠ .arrived ∧ ph ≠ .halted)
    (hrun : s.phase ≠ Phase.halted.code) (hsup : ph ≠ .searching → s.suppress = false)
    (hoff : ph = .returning ∨ ph = .displaying → s.eventsEn = false ∧ s.frameValid = true)
    (hhb : ph = .displaying → 1 ≤ s.hbCnt) (h : s.Inv) : (s.setPc ph .decide).Inv := by
  obtain ⟨hcodes, ⟨hcur, hridx, hflen, -, hcntMax, -, hhbMax, hpow⟩, ⟨hvalid, hacc, -, -, hhalt, -⟩, hmem⟩ := h
  obtain ⟨-, hprim, hfa, hfatal⟩ := s.codesOk_iff.1 hcodes
  have hzero : s.fatalCode = 0 := by
    by_contra hcode
    exact hrun (hhalt.2 hcode)
  have hsel : tickSel (ph.code ++ Sub.decide.code) false ≠ none := by
    cases ph <;> simp at hne <;> decide
  refine ⟨codesOk_of_at (ph := ph) (sb := .decide) ⟨rfl, rfl⟩ hsel hprim hfa hfatal,
    ⟨hcur, hridx, hflen, by simp [Sub.code_inj], hcntMax, fun hto => hhb (Phase.code_inj.1 hto), hhbMax, hpow⟩,
    ⟨hvalid, hacc, by simp [Sub.code_inj], ?_, ?_, ?_⟩, hmem⟩
  · rintro (hto | hto)
    · exact absurd (Phase.code_inj.1 hto) hne.1
    · exact hoff (hto.imp Phase.code_inj.1 Phase.code_inj.1)
  · simp [Phase.code_inj, hne.2, hzero]
  · intro hto
    exact hsup fun hsearch => by simp [Phase.code_inj, hsearch] at hto

/-- APPEND on a log with room. -/
theorem inv_recorded {s : State} (tag : Tag) (hroom : s.cursor < s.cfg.cap) (h : s.Inv) : (s.recorded tag).Inv := by
  obtain ⟨hcodes, ⟨-, hridx, hrest⟩, hphase, hwf, hidx, hbuf, hread⟩ := h
  refine ⟨hcodes, ⟨hroom, Nat.le_succ_of_le hridx, hrest⟩, hphase, Memory.wf_logWrite _ _ _ hwf, ?_, hbuf, ?_⟩
  · intro c hc
    obtain rfl | hc := mem_putCell hc
    · exact ⟨Nat.le_add_left .., hroom⟩
    · exact hidx c hc
  · intro i hi
    by_cases heq : i = s.cursor
    · subst heq
      simp [State.recorded]
    · have hlt : i < s.cursor := by simp only [State.recorded] at hi; omega
      have hother : i + 1 ≠ s.cursor + 1 := by omega
      simpa [State.recorded, Memory.logRead_logWrite_other _ _ _ _ hother] using hread i hlt

theorem inv_dwellCnt {s : State} (n : Nat) (hpos : s.sub = Sub.dwell.code → 1 ≤ n)
    (hmax : n ≤ s.cfg.adjMult * s.cfg.u) (h : s.Inv) : State.Inv { s with dwellCnt := n } := by
  obtain ⟨hcodes, ⟨hcur, hridx, hflen, -, -, hrest⟩, hphase, hmem⟩ := h
  exact ⟨hcodes, ⟨hcur, hridx, hflen, hpos, hmax, hrest⟩, hphase, hmem⟩

theorem inv_ridx {s : State} (n : Nat) (hn : n ≤ s.cursor) (h : s.Inv) : State.Inv { s with ridx := n } := by
  obtain ⟨hcodes, ⟨hcur, -, hrest⟩, hphase, hmem⟩ := h
  exact ⟨hcodes, ⟨hcur, hn, hrest⟩, hphase, hmem⟩

theorem inv_heartbeat {s : State} (on : Bool) (n : Nat) (hpos : 1 ≤ n) (hmax : n ≤ s.cfg.hbTicks) (h : s.Inv) :
    State.Inv { s with hb := on, hbCnt := n } := by
  obtain ⟨hcodes, ⟨hcur, hridx, hflen, hcnt, hcntMax, -, -, hpow⟩, hphase, hmem⟩ := h
  exact ⟨hcodes, ⟨hcur, hridx, hflen, hcnt, hcntMax, fun _ => hpos, hmax, hpow⟩, hphase, hmem⟩

theorem inv_unsuppressed {s : State} (h : s.Inv) : State.Inv { s with suppress := false } := by
  obtain ⟨hcodes, hcounters, ⟨hvalid, hacc, hramp, hoff, hhalt, -⟩, hmem⟩ := h
  exact ⟨hcodes, hcounters, ⟨hvalid, hacc, hramp, hoff, hhalt, fun _ => rfl⟩, hmem⟩

theorem inv_rampPowers {s : State} (h : s.Inv) : (rampPowers s).Inv := by
  obtain ⟨hcodes, ⟨hcur, hridx, hflen, hcnt, hcntMax, hhb, hhbMax, hL, hR⟩, hphase, hmem⟩ := h
  exact ⟨hcodes, ⟨hcur, hridx, hflen, hcnt, hcntMax, hhb, hhbMax, (satDec_le _).trans hL, (satDec_le _).trans hR⟩,
    hphase, hmem⟩

/-! ### The effects of a TICK -/

/-- Under the invariant, what the phase says of the flags (10_state.md R41). -/
theorem State.Inv.flags_off {s : State} (h : s.Inv) :
    (s.phase = Phase.tracking.code → s.suppress = false) ∧
    (s.phase = Phase.arrived.code ∨ s.phase = Phase.returning.code →
      s.suppress = false ∧ s.eventsEn = false ∧ s.frameValid = true) := by
  obtain ⟨-, -, ⟨-, -, -, hoff, -, hsup⟩, -⟩ := h
  exact ⟨fun hp => hsup (.inl hp), fun hp => ⟨hsup (by tauto), hoff (by tauto)⟩⟩

/-- Back to the decision of the same phase, in a phase that dwells. -/
theorem inv_toDecide {s : State} {ph : Phase} (hph : ph.Dwells) (hphase : s.phase = ph.code) (h : s.Inv) :
    (s.setPc ph .decide).Inv := by
  obtain ⟨htracking, hreturning⟩ := h.flags_off
  obtain rfl | rfl | rfl := hph
  · exact inv_setPc_decide (by decide) (by rw [hphase]; decide) (by simp) (by simp) (by simp) h
  · exact inv_setPc_decide (by decide) (by rw [hphase]; decide) (fun _ => htracking hphase) (by simp) (by simp) h
  · obtain ⟨hsup, hoff⟩ := hreturning (.inr hphase)
    exact inv_setPc_decide (by decide) (by rw [hphase]; decide) (fun _ => hsup) (fun _ => hoff) (by simp) h

/-- A match clears `suppress`, enters TRACKING and starts the Stop; the order of these writes is free, and in this one
each state between has the invariant. -/
theorem inv_checkMatches {s : State} (hphase : s.phase = Phase.searching.code) (h : s.Inv) :
    (startStop { s with dwellCnt := 0, suppress := false, phase := Phase.tracking.code }).Inv := by
  have htracking : (State.setPc { s with suppress := false } .tracking .decide).Inv :=
    inv_setPc_decide (by decide) (by simp [hphase, Phase.code_inj]) (fun _ => rfl) (by simp) (by simp)
      (inv_unsuppressed h)
  have hcounted := inv_dwellCnt 0 (by simp [Sub.code_inj]) (Nat.zero_le _) htracking
  have hstop := inv_startStop (.inl rfl) rfl hcounted
  exact hstop

/-- Every effect of a TICK keeps the invariant. -/
theorem TickEffect.keeps_inv {s t : State} (he : TickEffect s t) (h : s.Inv) : t.Inv := by
  obtain ⟨-, ⟨-, hridx, -, -, hcntMax, -, hhbMax, -⟩, -⟩ := id h
  obtain ⟨-, hflags⟩ := h.flags_off
  obtain ⟨-, -, hticks⟩ := s.cfg.one_le
  cases he with
  | spins hat => exact inv_issueAndHold _ (.inl rfl) hat.1 h
  | @records tag p hr hroom =>
    obtain hphase | hphase := hr.phase_eq
    · exact inv_issueAndHold (s := s.recorded tag) p (.inl rfl) hphase (inv_recorded tag hroom h)
    · exact inv_issueAndHold (s := s.recorded tag) p (.inr (.inl rfl)) hphase (inv_recorded tag hroom h)
  | overflows => exact inv_fatalEntry _ h
  | dwells _ _ hcnt => exact inv_dwellCnt _ (fun _ => by omega) (by omega) h
  | checkMatches hat => exact inv_checkMatches hat.1 h
  | @dwellEnds ph hph hat =>
    have hset : s.setPc ph .decide = { s with sub := Sub.decide.code } := by simp [State.setPc, ← hat.1]
    have hdecide := inv_toDecide hph hat.1 h
    rw [hset] at hdecide
    exact inv_dwellCnt 0 (by simp [Sub.code_inj]) (Nat.zero_le _) hdecide
  | arrives hat hv => exact inv_arrive hat.1 hv h
  | loses hat => exact inv_setPc_decide (by decide) (by rw [hat.1]; decide) (by simp) (by simp) (by simp) h
  | ramps => exact inv_rampPowers h
  | rampEndsTracking hat => exact inv_toDecide (.inr (.inl rfl)) hat.1 (inv_rampPowers h)
  | rampEndsArrived hat =>
    obtain ⟨hsup, hoff⟩ := hflags (.inl hat.1)
    exact inv_setPc_decide (by decide) (by simp [hat.1, Phase.code_inj]) (fun _ => hsup) (fun _ => hoff) (by simp)
      (inv_rampPowers h)
  | rampEndsReturning hat =>
    obtain ⟨hsup, hoff⟩ := hflags (.inr hat.1)
    exact inv_setPc_decide (s := { rampPowers s with hb := true, hbCnt := s.cfg.hbTicks }) (by decide)
      (by simp [hat.1, Phase.code_inj]) (fun _ => hsup) (fun _ => hoff) (fun _ => hticks)
      (inv_heartbeat true _ hticks le_rfl (inv_rampPowers h))
  | stops hat => exact inv_startStop (.inr (.inr rfl)) hat.1 h
  | @replays tag hat hr =>
    exact inv_ridx (s := issueAndHold (inv tag) s) (s.ridx - 1) (by simp [issueAndHold]; omega)
      (inv_issueAndHold _ (.inr (.inr rfl)) hat.1 h)
  | toggles => exact inv_heartbeat _ _ hticks le_rfl h
  | counts _ hcnt => exact inv_heartbeat s.hb _ (by omega) (by omega) h
  | rests => exact h

/-! ### The effects of an RXB -/

/-- While a frame is not accepted, `frame_valid` is 0. -/
theorem frameValid_eq_false {s : State} {fa : FaState} (hfa : s.faState = fa.code) (hne : fa ≠ .accepted)
    (h : s.Inv) : s.frameValid = false := by
  obtain ⟨-, -, ⟨hvalid, -⟩, -⟩ := h
  rw [← Bool.not_eq_true, hvalid, hfa]
  cases fa <;> simp at hne <;> decide

/-- A verdict of good stands for a frame of twelve bytes (44_frame.md R207). -/
theorem flen_of_frameGood {s : State} (h : s.frameGood = true) : s.flen = 12 := by
  simp only [State.frameGood, Bool.and_eq_true, decide_eq_true_eq] at h
  exact h.1

/-- START. -/
theorem inv_rxStartBody {s : State} (hfa : s.faState = FaState.idle.code) (h : s.Inv) : (rxStartBody s).Inv := by
  have hinvalid := frameValid_eq_false hfa (by decide) h
  obtain ⟨hcodes, ⟨hcur, hridx, -, hrest⟩, ⟨-, -, hphase⟩, hwf, hidx, -, hread⟩ := h
  obtain ⟨hsel, hprim, -, hfatal⟩ := s.codesOk_iff.1 hcodes
  refine ⟨(State.codesOk_iff _).2 ⟨hsel, hprim, (by decide : rxSel FaState.collecting.code 0 false ≠ none), hfatal⟩,
    ⟨hcur, hridx, Nat.zero_le _, hrest⟩, ⟨?_, ?_, hphase⟩, Memory.wf_fbufClear _ hwf, hidx, ?_, hread⟩
  · simp [hinvalid, FaState.code]
  · simp [FaState.code]
  · simp [Memory.fbufClear]

/-- ACCEPT of a good frame. -/
theorem inv_accept {s : State} (hgood : s.frameGood = true) (h : s.Inv) : (accept s).Inv := by
  obtain ⟨hcodes, hcounters, ⟨-, -, hramp, hoff, hrest⟩, hmem⟩ := h
  obtain ⟨hsel, hprim, -, hfatal⟩ := s.codesOk_iff.1 hcodes
  exact ⟨(State.codesOk_iff _).2 ⟨hsel, hprim, (by decide : rxSel FaState.accepted.code 0 false ≠ none), hfatal⟩,
    hcounters, ⟨⟨fun _ => rfl, fun _ => rfl⟩, fun _ => flen_of_frameGood hgood, hramp,
      fun hphase => ⟨(hoff hphase).1, rfl⟩, hrest⟩, hmem⟩

/-- REJECT. -/
theorem inv_reject {s : State} (hfa : s.faState = FaState.collecting.code) (h : s.Inv) : (reject s).Inv := by
  have hinvalid := frameValid_eq_false hfa (by decide) h
  obtain ⟨hcodes, ⟨hcur, hridx, -, hrest⟩, ⟨-, -, hphase⟩, hmem⟩ := h
  obtain ⟨hsel, hprim, -, hfatal⟩ := s.codesOk_iff.1 hcodes
  refine ⟨(State.codesOk_iff _).2 ⟨hsel, hprim, (by decide : rxSel FaState.idle.code 0 false ≠ none), hfatal⟩,
    ⟨hcur, hridx, Nat.zero_le _, hrest⟩, ⟨?_, ?_, hphase⟩, hmem⟩
  · simp [hinvalid, FaState.code]
  · simp [FaState.code]

/-- COLLECT with room in the buffer. -/
theorem inv_rxCollectBody {s : State} (b : Byte) (hfa : s.faState = FaState.collecting.code)
    (hroom : s.flen < s.cfg.fcap) (h : s.Inv) : (rxCollectBody b s).Inv := by
  obtain ⟨hcodes, ⟨hcur, hridx, -, hrest⟩, ⟨hvalid, -, hphase⟩, hwf, hidx, hbuf, hread⟩ := h
  refine ⟨hcodes, ⟨hcur, hridx, hroom, hrest⟩, ⟨hvalid, ?_, hphase⟩, Memory.wf_fbufWrite _ _ _ hwf, hidx, ?_, hread⟩
  · simp [hfa, FaState.code]
  · intro c hc
    obtain heq | hc := mem_fbufWrite hc
    · exact heq ▸ hroom
    · exact hbuf c hc

/-- Every effect of an RXB keeps the invariant. -/
theorem RxEffect.keeps_inv {b : Byte} {s t : State} (he : RxEffect b s t) (h : s.Inv) : t.Inv := by
  cases he with
  | disabled => exact h
  | starts _ hfa => exact inv_rxStartBody hfa h
  | ignoresIdle => exact h
  | accepts _ _ _ hgood => exact inv_accept hgood h
  | rejects _ hfa => exact inv_reject hfa h
  | collects _ hfa _ hroom => exact inv_rxCollectBody b hfa hroom h
  | overflows => exact inv_fatalEntry _ h
  | ignoresAccepted => exact h

/-! ### Steps and runs -/

/-- Every effect of a step keeps the invariant. -/
theorem StepEffect.keeps_inv {s t : State} (he : StepEffect s t) (h : s.Inv) : t.Inv := by
  have hstarted : s.started.Inv := h
  cases he with
  | idles => exact h
  | @captures r => cases r <;> exact hstarted
  | ignoresCapture => exact hstarted
  | receives _ _ hrx => exact hrx.keeps_inv hstarted
  | ticks _ _ htick => exact htick.keeps_inv hstarted
  | resets => exact inv_resetState h

theorem inv_of_step {s t : State} (h : s.Inv) (hstep : step s = .next t) : t.Inv :=
  (stepEffect_of_step hstep).keeps_inv h

/-- What every step keeps holds after any number of steps. -/
theorem run_induction {P : State → Prop} (hstep : ∀ s t, P s → step s = .next t → P t) (k : Nat) :
    ∀ {s t : State}, P s → Host.Core.run Sys2Proof.core k s = .next t → P t := by
  induction k with
  | zero =>
    intro s t hs hrun
    cases hrun
    exact hs
  | succ k ih =>
    intro s t hs hrun
    simp only [Host.Core.run] at hrun
    split at hrun
    · next u hu => exact ih (hstep s u hs hu) hrun
    · cases hrun
    · cases hrun

/-- Settles O51: the reset values, over an empty log. -/
theorem invariantHoldsAtPowerOn : Obligations.InvariantHoldsAtPowerOn :=
  ⟨fun c ws => inv_powerOn c ws [] .nil (by simp), inv_powerOn exampleConfig [] [] .nil (by simp)⟩

/-! ### The list of R41 -/

/-- The pairs of phase and step that are no reserved state are the homes of the micro-operations (30_encoding.md R76,
R78). -/
theorem State.CodesOk.exists_home {s : State} (h : s.CodesOk) : ∃ m : MicroOp, s.At m.home.1 m.home.2 := by
  obtain ⟨m, hm⟩ := Option.ne_none_iff_exists'.1 (s.codesOk_iff.1 h).1
  exact ⟨m, at_home_of_tickSel hm⟩

/-- The invariant has everything R41 lists; which steps a phase has is read off the homes of the micro-operations. -/
theorem State.Inv.r41 {s : State} (h : s.Inv) : R41 s := by
  obtain ⟨hcodes, ⟨hcur, hridx, hflen, hcnt, hcntMax, -, -, hpow⟩, ⟨hvalid, -, hramp, hoff, hhalt, hsup⟩, -⟩ := h
  obtain ⟨m, hphase, hsub⟩ := hcodes.exists_home
  have hdwellPhase : s.sub = Sub.dwell.code →
      s.phase = Phase.searching.code ∨ s.phase = Phase.tracking.code ∨ s.phase = Phase.returning.code := by
    rw [hphase, hsub]; cases m <;> decide
  have hrampPhase : s.sub = Sub.ramp.code →
      s.phase = Phase.tracking.code ∨ s.phase = Phase.arrived.code ∨ s.phase = Phase.returning.code := by
    rw [hphase, hsub]; cases m <;> decide
  exact {
    cursorBound := ⟨hcur, hridx⟩
    flenBound := hflen
    validIffAccepted := hvalid
    dwell := fun hd => ⟨hcnt hd, hcntMax, hdwellPhase hd⟩
    ramp := fun hr => ⟨hramp hr, hrampPhase hr⟩
    arrivedRamps := by rw [hphase, hsub]; cases m <;> decide
    searchingSub := by rw [hphase, hsub]; cases m <;> decide
    endedSub := by rw [hphase, hsub]; cases m <;> decide
    eventsOff := hoff
    haltedIffFatal := hhalt
    suppressOff := hsup
    powers := hpow }

/-- Settles O54: the invariant holds at power-on and every step keeps it, so every reachable state has what R41
lists. -/
theorem reachableStatesSatisfyR41 : Obligations.ReachableStatesSatisfyR41 := by
  intro c ws k t hrun
  have hinv : t.Inv := run_induction (fun _ _ => inv_of_step) k (invariantHoldsAtPowerOn.1 c ws) hrun
  exact hinv.r41

end Sys2Proof.Machine
end

section
/-! PROOF. The memory model (20_memory.md): every step keeps the invariant and the configuration, and the two
producers, which write disjoint state, commute. -/

namespace Sys2Proof.Machine

open Sys2Proof

/-- Settles O52: a step has one of the effects of `StepEffect`, and each of them keeps the invariant. -/
theorem stepKeepsTheInvariant : Obligations.StepKeepsTheInvariant :=
  fun _ _ => inv_of_step

/-! ### The configuration and the stream -/

theorem TickEffect.cfg_input_eq {s t : State} (h : TickEffect s t) : t.cfg = s.cfg ∧ t.input = s.input := by
  cases h <;> exact ⟨rfl, rfl⟩

theorem RxEffect.cfg_input_eq {b : Byte} {s t : State} (h : RxEffect b s t) :
    t.cfg = s.cfg ∧ t.input = s.input := by
  cases h <;> exact ⟨rfl, rfl⟩

/-- Settles O56: the word is taken before the transaction starts, and no effect writes the configuration or the rest
of the stream. -/
theorem stepKeepsTheConfiguration : Obligations.StepKeepsTheConfiguration := by
  intro s t h
  cases stepEffect_of_step h with
  | idles hin => exact ⟨rfl, by simp [hin]⟩
  | captures => exact ⟨State.writeCapture_cfg .., State.writeCapture_input ..⟩
  | ignoresCapture => exact ⟨rfl, rfl⟩
  | receives _ _ he => exact he.cfg_input_eq
  | ticks _ _ he => exact he.cfg_input_eq
  | resets => exact ⟨rfl, rfl⟩

/-! ### What a CAP and an RXB answer -/

theorem exec_cap_of_enabled {s : State} (r : Receiver) (v : Byte) (hok : s.CodesOk)
    (hon : s.producersEnabled = true) : exec (.cap r v) s = .next (s.begun.writeCapture r v) := by
  simp [exec, execCap, transaction_of_codesOk hok, captureBody, hon]

theorem exec_cap_of_disabled {s : State} (r : Receiver) (v : Byte) (hok : s.CodesOk)
    (hoff : s.producersEnabled = false) : exec (.cap r v) s = .next s.begun := by
  simp [exec, execCap, transaction_of_codesOk hok, captureBody, hoff]

theorem exec_rxb_of_rxSel {s : State} {b : Byte} {op : RxOp} (hok : s.CodesOk) (hon : s.producersEnabled = true)
    (hop : rxSel s.faState b s.frameFull = some op) : exec (.rxb b) s = .next (rxOpBody op b s.begun) := by
  simp [exec, execRxb, transaction_of_codesOk hok, receiveBody, hon, hop]

theorem exec_rxb_of_disabled {s : State} (b : Byte) (hok : s.CodesOk) (hoff : s.producersEnabled = false) :
    exec (.rxb b) s = .next s.begun := by
  simp [exec, execRxb, transaction_of_codesOk hok, receiveBody, hoff]

/-! ### What the write of a sample leaves of the conditions of a transaction -/

@[simp] theorem State.writeCapture_reservedFault (s : State) (r : Receiver) (v : Byte) :
    (s.writeCapture r v).reservedFault = s.reservedFault := by cases r <;> rfl

@[simp] theorem State.writeCapture_producersEnabled (s : State) (r : Receiver) (v : Byte) :
    (s.writeCapture r v).producersEnabled = s.producersEnabled := by cases r <;> rfl

@[simp] theorem State.writeCapture_frameFull (s : State) (r : Receiver) (v : Byte) :
    (s.writeCapture r v).frameFull = s.frameFull := by cases r <;> rfl

@[simp] theorem State.writeCapture_frameGood (s : State) (r : Receiver) (v : Byte) :
    (s.writeCapture r v).frameGood = s.frameGood := by cases r <;> rfl

theorem State.begun_writeCapture (s : State) (r : Receiver) (v : Byte) :
    (s.writeCapture r v).begun = s.begun.writeCapture r v := by cases r <;> rfl

@[simp] theorem State.begun_begun (s : State) : s.begun.begun = s.begun := rfl

/-! ### What the steps of the assembler leave of them -/

/-- The overflow is selected only by a byte of the frame that finds the buffer full (44_frame.md R205). -/
theorem of_rxSel_overflow {fa : BitVec 2} {b : Byte} {full : Bool} (h : rxSel fa b full = some .overflow) :
    fa = FaState.collecting.code ∧ b ≠ etx ∧ full = true := by
  unfold rxSel at h
  split_ifs at h with _ _ hfa hb hfull <;> cases h
  exact ⟨hfa, hb, hfull⟩

/-- Moving the assembler to one of its named states brings in no reserved code. -/
theorem State.CodesOk.of_faState {s t : State} (h : s.CodesOk) (fa : FaState) (hfa : t.faState = fa.code)
    (hvec : t.stateVector = s.stateVector) (hprim : t.prim = s.prim) (hfatal : t.fatalCode = s.fatalCode) :
    t.CodesOk := by
  obtain ⟨hsel, hdec, -, hne⟩ := s.codesOk_iff.1 h
  have hrx : rxSel fa.code 0 false ≠ none := by cases fa <;> decide
  exact t.codesOk_iff.2 ⟨hvec ▸ hsel, hprim ▸ hdec, hfa ▸ hrx, hfatal ▸ hne⟩

/-- Every step of the assembler that does not overflow keeps the state free of reserved codes. -/
theorem codesOk_rxOpBody {op : RxOp} (b : Byte) {s : State} (hop : op ≠ .overflow) (h : s.CodesOk) :
    (rxOpBody op b s).CodesOk := by
  cases op with
  | start => exact h.of_faState .collecting rfl rfl rfl rfl
  | endEvaluate =>
    simp only [rxOpBody, rxEvaluateBody]
    split
    · exact h.of_faState .accepted rfl rfl rfl rfl
    · exact h.of_faState .idle rfl rfl rfl rfl
  | overflow => exact absurd rfl hop
  | ignoreIdle | collect | ignoreAccepted => exact h

/-- Of the steps of the assembler, only the overflow disables the producers. -/
theorem producersEnabled_rxOpBody {op : RxOp} (b : Byte) (s : State) (hop : op ≠ .overflow) :
    (rxOpBody op b s).producersEnabled = s.producersEnabled := by
  cases op with
  | endEvaluate => simp only [rxOpBody, rxEvaluateBody]; split <;> rfl
  | overflow => exact absurd rfl hop
  | start | ignoreIdle | collect | ignoreAccepted => rfl

/-- The assembler neither reads nor writes a sample (20_memory.md R61). -/
theorem rxOpBody_writeCapture (op : RxOp) (b : Byte) (s : State) (r : Receiver) (v : Byte) :
    rxOpBody op b (s.writeCapture r v) = (rxOpBody op b s).writeCapture r v := by
  cases op with
  | endEvaluate =>
    simp only [rxOpBody, rxEvaluateBody, State.writeCapture_frameGood]
    split <;> cases r <;> rfl
  | start | ignoreIdle | collect | overflow | ignoreAccepted => cases r <;> rfl

/-! ### The producers commute -/

/-- Enabled producers, and an assembler step that leaves them enabled: both orders select the same step and write the
same sample. -/
theorem producers_commute_of_enabled {s : State} {op : RxOp} (r : Receiver) (v b : Byte) (hok : s.CodesOk)
    (hon : s.producersEnabled = true) (hsel : rxSel s.faState b s.frameFull = some op) (hop : op ≠ .overflow) :
    ∃ t u t' u', exec (.cap r v) s = .next t ∧ exec (.rxb b) t = .next u ∧ exec (.rxb b) s = .next t' ∧
      exec (.cap r v) t' = .next u' ∧ u.begun = u'.begun := by
  have hrxb : exec (.rxb b) (s.begun.writeCapture r v) =
      .next (rxOpBody op b (s.begun.writeCapture r v).begun) :=
    exec_rxb_of_rxSel ((State.writeCapture_reservedFault ..).trans hok) (by simpa using hon) (by simpa using hsel)
  have hcap : exec (.cap r v) (rxOpBody op b s.begun) = .next ((rxOpBody op b s.begun).begun.writeCapture r v) :=
    exec_cap_of_enabled r v (codesOk_rxOpBody b hop hok) ((producersEnabled_rxOpBody b s.begun hop).trans hon)
  refine ⟨_, _, _, _, exec_cap_of_enabled r v hok hon, hrxb, exec_rxb_of_rxSel hok hon hsel, hcap, ?_⟩
  simp only [State.begun_writeCapture, State.begun_begun, rxOpBody_writeCapture]

/-- Settles O13: while the producers are disabled neither writes anything; while they are enabled, an RXB that does
not overflow leaves them so and touches no sample. -/
theorem producersCommute : Obligations.ProducersCommute := by
  intro s r v b hok hno
  cases hen : s.producersEnabled with
  | false =>
    have hcap := exec_cap_of_disabled (s := s.begun) r v hok hen
    have hrxb := exec_rxb_of_disabled (s := s.begun) b hok hen
    exact ⟨_, _, _, _, exec_cap_of_disabled r v hok hen, hrxb, exec_rxb_of_disabled b hok hen, hcap, rfl⟩
  | true =>
    obtain ⟨-, -, hfaOk, -⟩ := s.codesOk_iff.1 hok
    obtain ⟨op, hsel⟩ := rxSel_ne_none s.faState b s.frameFull hfaOk
    have hop : op ≠ .overflow := by
      rintro rfl
      obtain ⟨hfa, hb, hfull⟩ := of_rxSel_overflow hsel
      exact hno ⟨hfa, hb, by simpa [State.frameFull] using hfull⟩
    exact producers_commute_of_enabled r v b hok hen hsel hop

end Sys2Proof.Machine
end

section
/-! PROOF. The encoding (30_encoding.md): which words decode to which transaction, and that the encoder and the decoder
undo each other. -/

namespace Sys2Proof

open Sys2Proof.Machine

/-! ### Transaction words as four bits of kind and a byte (30_encoding.md R70, R71) -/

/-- Two parts of the same widths put together determine the parts. -/
theorem append_eq_append_iff {m n : Nat} {a c : BitVec m} {b d : BitVec n} : a ++ b = c ++ d ↔ a = c ∧ b = d := by
  constructor
  · intro h
    have hhigh := congrArg (BitVec.extractLsb' n m) h
    have hlow := congrArg (BitVec.extractLsb' 0 n) h
    rw [BitVec.extractLsb'_append_eq_left, BitVec.extractLsb'_append_eq_left] at hhigh
    rw [BitVec.extractLsb'_append_eq_right, BitVec.extractLsb'_append_eq_right] at hlow
    exact ⟨hhigh, hlow⟩
  · rintro ⟨rfl, rfl⟩
    rfl

theorem Word.exists_append (w : Word) : ∃ (k : BitVec 4) (b : Byte), w = k ++ b :=
  ⟨w.extractLsb' 8 4, w.extractLsb' 0 8, (BitVec.extractLsb'_append_extractLsb' (w := 4) (len := 8)).symm⟩

/-- A row that masks no bit of the byte is matched on the kind. -/
theorem TwRow.selects_append_iff (p m k : BitVec 4) (b : Byte) :
    (TwRow.mk (p ++ 0#8) (m ++ 0#8)).selects (k ++ b) = true ↔ k &&& m = p := by
  have hand : (k ++ b) &&& (m ++ 0#8) = (k &&& m) ++ 0#8 := by rw [BitVec.and_append, BitVec.and_zero]
  refine decide_eq_true_iff.trans ?_
  rw [hand]
  exact BitVec.append_left_inj _

/-- Row CAP is matched by the words of CAP. -/
theorem twCap_selects_iff (w : Word) : twCap.selects w = true ↔ ∃ r v, w = capWord r v := by
  obtain ⟨k, b, rfl⟩ := w.exists_append
  have kinds : ∀ k : BitVec 4, k &&& 0xE = 0 ↔ k = 0b00#2 ++ 0b0#1 ++ Receiver.first.bit ∨
      k = 0b00#2 ++ 0b0#1 ++ Receiver.second.bit := by decide
  refine (TwRow.selects_append_iff 0 0xE k b).trans ?_
  rw [kinds]
  constructor
  · rintro (rfl | rfl)
    · exact ⟨.first, b, rfl⟩
    · exact ⟨.second, b, rfl⟩
  · rintro ⟨r, v, hw⟩
    obtain ⟨hk, -⟩ := append_eq_append_iff.1 hw
    cases r
    · exact .inl hk
    · exact .inr hk

/-- Row RXB is matched by the words of RXB. -/
theorem twRxb_selects_iff (w : Word) : twRxb.selects w = true ↔ ∃ b, w = rxbWord b := by
  obtain ⟨k, b, rfl⟩ := w.exists_append
  have kinds : ∀ k : BitVec 4, k &&& 0xF = 0x4 ↔ k = 0b01#2 ++ 0b00#2 := by decide
  refine (TwRow.selects_append_iff 0x4 0xF k b).trans ?_
  rw [kinds]
  constructor
  · rintro rfl
    exact ⟨b, rfl⟩
  · rintro ⟨v, hw⟩
    exact (append_eq_append_iff.1 hw).1

/-- A row that masks no bit is matched by its pattern alone. -/
theorem TwRow.selects_iff_of_full_mask (p w : Word) : (TwRow.mk p 0xFFF).selects w = true ↔ w = p := by
  have hmask : w &&& 0xFFF = w := BitVec.and_allOnes
  simp only [TwRow.selects, hmask, decide_eq_true_eq]

/-- The words of the four transactions (30_encoding.md R71). -/
inductive IsWordOf : Instr → Word → Prop
  | cap (r : Receiver) (v : Byte) : IsWordOf (.cap r v) (capWord r v)
  | rxb (b : Byte) : IsWordOf (.rxb b) (rxbWord b)
  | tick : IsWordOf .tick tickWord
  | rst : IsWordOf .rst rstWord

theorem decodeWord_capWord (r : Receiver) (v : Byte) : decodeWord (capWord r v) = .ok (.cap r v) := by
  have hsel : twCap.selects (capWord r v) = true := (twCap_selects_iff _).2 ⟨r, v, rfl⟩
  have hbit : Receiver.ofBit ((capWord r v).extractLsb' 8 1) = r := by
    rw [capWord, BitVec.extractLsb'_append_eq_of_le (Nat.le_refl 8)]
    cases r <;> rfl
  have hbyte : (capWord r v).extractLsb' 0 8 = v := BitVec.extractLsb'_append_eq_right
  simp [decodeWord, hsel, hbit, hbyte]

theorem decodeWord_rxbWord (b : Byte) : decodeWord (rxbWord b) = .ok (.rxb b) := by
  have hcap : ¬twCap.selects (rxbWord b) = true := by
    rw [twCap_selects_iff]
    rintro ⟨r, v, hw⟩
    obtain ⟨hk, -⟩ := append_eq_append_iff.1 hw
    cases r <;> exact absurd hk (by decide)
  have hsel : twRxb.selects (rxbWord b) = true := (twRxb_selects_iff _).2 ⟨b, rfl⟩
  have hbyte : (rxbWord b).extractLsb' 0 8 = b := BitVec.extractLsb'_append_eq_right
  simp [decodeWord, hcap, hsel, hbyte]

/-- A word decodes to a transaction exactly when it is the word of that transaction. -/
theorem decodeWord_eq_ok_iff {w : Word} {i : Instr} : decodeWord w = .ok i ↔ IsWordOf i w := by
  constructor
  · intro h
    by_cases hcap : ∃ r v, w = capWord r v
    · obtain ⟨r, v, rfl⟩ := hcap
      cases (decodeWord_capWord r v).symm.trans h
      exact .cap r v
    by_cases hrxb : ∃ b, w = rxbWord b
    · obtain ⟨b, rfl⟩ := hrxb
      cases (decodeWord_rxbWord b).symm.trans h
      exact .rxb b
    rw [← twCap_selects_iff] at hcap
    rw [← twRxb_selects_iff] at hrxb
    unfold decodeWord at h
    rw [if_neg hcap, if_neg hrxb] at h
    split_ifs at h with htick hrst <;> cases h
    · rw [(TwRow.selects_iff_of_full_mask 0x800 w).1 htick]
      exact .tick
    · rw [(TwRow.selects_iff_of_full_mask 0xC00 w).1 hrst]
      exact .rst
  · rintro (⟨r, v⟩ | ⟨b⟩ | _ | _)
    · exact decodeWord_capWord r v
    · exact decodeWord_rxbWord b
    · rfl
    · rfl

/-- Settles O2: a word that decodes is the word of what it decodes to. -/
theorem encodeOfDecodedWord : Obligations.EncodeOfDecodedWord := by
  intro w i h
  obtain ⟨r, v⟩ | ⟨b⟩ | _ | _ := decodeWord_eq_ok_iff.1 h
  all_goals rfl

/-! ### The codes of an instruction, one after another -/

/-- The code is the instruction. -/
abbrev Decodes (c : Code) (i : Instr) : Prop := decodeCode c = .ok i

theorem decode_of_forall₂ {cs : List Code} {is : List Instr} (h : List.Forall₂ Decodes cs is) :
    decode cs = .ok is := by
  induction h with
  | nil => rfl
  | cons hc _ ih => simp only [decode, hc, ih]

/-- The bits of an RXBSEL row select the step that its `fa_state` and its byte select (44_frame.md R200). -/
theorem decodes_rxbSel {fa : FaState} {b : Byte} {full : Bool} {op : RxOp} (h : rxSel fa.code b full = some op) :
    Decodes (.rxbSel (rxBits fa b) full) (op.instr b) := by
  have hfa : (rxBits fa b).extractLsb' 8 2 = fa.code := BitVec.extractLsb'_append_eq_left
  have hb : (rxBits fa b).extractLsb' 0 8 = b := BitVec.extractLsb'_append_eq_right
  simp only [Decodes, decodeCode, hfa, hb, h]

theorem forall₂_singleton {c : Code} {i : Instr} (h : Decodes c i) : List.Forall₂ Decodes [c] [i] := .cons h .nil

/-- The words of a string of bytes are its RXBs in order. -/
theorem forall₂_rxbWords (bs : List Byte) :
    List.Forall₂ Decodes (bs.map fun b => .tw (rxbWord b)) (bs.map .rxb) := by
  induction bs with
  | nil => exact .nil
  | cons b _ ih => exact .cons (decodeWord_rxbWord b) ih

theorem forall₂_tickWords (n : Nat) :
    List.Forall₂ Decodes (List.replicate n (.tw tickWord)) (List.replicate n .tick) := by
  induction n with
  | zero => exact .nil
  | succ n ih => exact .cons rfl ih

/-- Each code of a well-formed instruction is the core instruction at the same place of its expansion. -/
theorem forall₂_encode_expand {i : Instr} (h : i.wellFormed = true) :
    List.Forall₂ Decodes (encode i) (expand i) := by
  cases i with
  | cap r v => exact forall₂_singleton (decodeWord_capWord r v)
  | rxb b => exact forall₂_singleton (decodeWord_rxbWord b)
  | rxIgnoreIdle b =>
    have hb : b ≠ stx := of_decide_eq_true h
    exact forall₂_singleton (decodes_rxbSel (op := .ignoreIdle) (by simp [rxSel, hb]))
  | rxCollect b =>
    have hb : b ≠ etx := of_decide_eq_true h
    exact forall₂_singleton (decodes_rxbSel (op := .collect) (by simp [rxSel, FaState.code, hb]))
  | rxOverflow b =>
    have hb : b ≠ etx := of_decide_eq_true h
    exact forall₂_singleton (decodes_rxbSel (op := .overflow) (by simp [rxSel, FaState.code, hb]))
  | rxIgnoreAccepted b => exact forall₂_singleton (decodes_rxbSel (op := .ignoreAccepted) rfl)
  | caps a b => exact .cons (decodeWord_capWord .first a) (forall₂_singleton (decodeWord_capWord .second b))
  | ticks n => exact forall₂_tickWords n
  | rxs s => exact forall₂_rxbWords s
  | frame s =>
    exact .cons (decodeWord_rxbWord stx)
      (List.rel_append (forall₂_rxbWords s) (forall₂_singleton (decodeWord_rxbWord etx)))
  | tick | rst => exact forall₂_singleton rfl
  | searchSpin | searchDwell | searchCheck | trackDecide | dwellTickTracking | rampTickTracking | rampTickArrived
  | returnStep | dwellTickReturning | rampTickReturning | displayTick | haltTick => exact forall₂_singleton rfl
  | rxStart | rxEndEvaluate => exact forall₂_singleton rfl
  | stop | spinLeft | spinRight | gentleRightFwd | gentleLeftFwd | gentleRightBwd | gentleLeftBwd | straightFwd
  | straightBwd | halt => exact forall₂_singleton rfl
  | tagSpinSearch | tagStraightForward | tagAdjustRight | tagAdjustLeft => exact forall₂_singleton rfl

/-- Settles O1: code by code, and the codes of a pseudo-instruction by the list it expands to. -/
theorem decodeOfEncode : Obligations.DecodeOfEncode :=
  fun _ h => decode_of_forall₂ (forall₂_encode_expand h)

end Sys2Proof
end

section
/-! PROOF. What the transactions answer: a step runs the word at the head of the stream, a TICK the micro-operation its
state vector selects, and an RXB completes in every state without a reserved code. -/

namespace Sys2Proof.Machine

open Sys2Proof

/-! ### The step -/

theorem step_of_input_nil {s : State} (hin : s.input = []) (hok : s.CodesOk) : step s = .next s := by
  simp [step, State.nextWord, hin, idle, hok]

theorem step_of_decodeWord_ok {s : State} {w : Word} {rest : List Word} {i : Instr} (hin : s.input = w :: rest)
    (hi : decodeWord w = .ok i) : step s = exec i { s with input := rest } := by
  simp [step, State.nextWord, State.wordTaken, hin, hi]

theorem step_of_decodeWord_error {s : State} {w : Word} {rest : List Word} {e : DecodeError}
    (hin : s.input = w :: rest) (he : decodeWord w = .error e) : step s = .refused (.reservedWord w) := by
  simp [step, State.nextWord, hin, he]

/-- Settles O7: the two equations of a step that meets no reserved word. -/
theorem stepRunsDecodedWord : Obligations.StepRunsDecodedWord :=
  ⟨fun _ _ _ _ => step_of_decodeWord_ok, fun _ => step_of_input_nil⟩

/-! ### The TICK (30_encoding.md R76) -/

/-- The row of a micro-operation is the TICK, whichever row the state selects. -/
theorem exec_microOp_eq_tick (m : MicroOp) (s : State) : exec m.instr s = exec .tick s := by
  have hrow : exec m.instr s = tickRow m s := by cases m <;> rfl
  rw [hrow, tickRow_eq_tick]
  rfl

theorem exec_tick_of_tickSel {s : State} {m : MicroOp} (h : tickSel s.stateVector s.lastDwellTick = some m) :
    exec .tick s = transaction (microOpBody m) s := by
  have hbody : tickBody s.begun = microOpBody m s.begun := by simp [tickBody, h]
  show transaction tickBody s = transaction (microOpBody m) s
  simp only [transaction, hbody]

theorem performs_of_exec_tick {s : State} {m : MicroOp} (h : exec .tick s = transaction (microOpBody m) s) :
    Performs m s := ⟨h, (exec_microOp_eq_tick m s).trans h⟩

/-- Every row but the two of a Searching dwell is selected by its vector alone. -/
theorem performs_of_stateVector {s : State} {m : MicroOp} {v : BitVec 5} (hv : s.stateVector = v)
    (hsel : ∀ last, tickSel v last = some m) : Performs m s :=
  performs_of_exec_tick (exec_tick_of_tickSel (by rw [hv]; exact hsel _))

/-- The last tick of a Searching dwell is SEARCH_CHECK. -/
theorem performs_searchCheck {s : State} (hv : s.stateVector = 0b00001) (hlast : s.dwellCnt = 1) :
    Performs .searchCheck s := by
  have hl : s.lastDwellTick = true := decide_eq_true hlast
  exact performs_of_exec_tick (exec_tick_of_tickSel (by rw [hv, hl]; rfl))

/-- Every tick of a Searching dwell is SEARCH_DWELL: the last one, as SEARCH_CHECK, has the same body (42_navigation.md
R143, R144). -/
theorem performs_searchDwell {s : State} (hv : s.stateVector = 0b00001) : Performs .searchDwell s := by
  cases hl : s.lastDwellTick with
  | false => exact performs_of_exec_tick (exec_tick_of_tickSel (by rw [hv, hl]; rfl))
  | true =>
    have hbody : microOpBody .searchCheck = microOpBody .searchDwell := rfl
    exact performs_of_exec_tick (hbody ▸ (performs_searchCheck hv (of_decide_eq_true hl)).1)

theorem exec_tick_of_reservedState {s : State} (h : tickSel s.stateVector false = none) :
    exec .tick s = .fault .reservedState :=
  transaction_of_reserved (by simp [State.reservedFault, h])

/-- Settles O8, row by row of R76. -/
theorem tickRunsSelectedMicroOperation : Obligations.TickRunsSelectedMicroOperation := by
  intro s
  refine ⟨?searchSpin, performs_searchDwell, performs_searchCheck, ?trackDecide, ?dwellTracking, ?rampTracking,
    ?rampArrived, ?returnStep, ?dwellReturning, ?rampReturning, ?display, ?halt, exec_tick_of_reservedState⟩
  all_goals exact fun hv => performs_of_stateVector hv fun _ => rfl

/-! ### A clock edge (30_encoding.md R79) -/

/-- A matching SEARCH_CHECK enters TRACKING and starts the Stop (42_navigation.md R144). -/
theorem exec_tick_of_match {s : State} (hok : s.CodesOk) (hat : s.At .searching .dwell) (hcnt : s.dwellCnt = 1)
    (h1 : s.cap1 = s.cfg.center) (h2 : s.cap2 = s.cfg.center) :
    exec .tick s = .next
      (startStop { s with dwellCnt := 0, suppress := false, phase := Phase.tracking.code, dispEvt := 0 }) := by
  have hv : s.stateVector = 0b00001 := (s.stateVector_eq_iff .searching .dwell).2 hat
  have hmatch : centered s.cfg.toParams s.cap1 s.cap2 = true := (centered_iff ..).2 ⟨h1, h2⟩
  rw [(performs_searchCheck hv hcnt).1, transaction_of_codesOk hok]
  simp [microOpBody, dwellBody, hcnt, searchCheckBody, hmatch, State.begun]

theorem runStrobed_nil (s : State) : runStrobed [] s = .next s := rfl

/-- A transaction without a strobe adds none to those of the others of its edge (60_exceptions.md R243). -/
theorem runStrobed_cons_of_quiet {i : Instr} {rest : List Instr} {s t u : State} (hi : exec i s = .next t)
    (hquiet : t.dispEvt = 0) (hrest : runStrobed rest t = .next u) : runStrobed (i :: rest) s = .next u := by
  simp [runStrobed, hi, hrest, hquiet]

/-- Settles O49: the two captures come before the tick, which so finds both samples centered. -/
theorem edgeCaptureReachesItsDecision : Obligations.EdgeCaptureReachesItsDecision := by
  intro s hok hon hat hcnt
  have hen : s.producersEnabled = true := s.producersEnabled_iff.2 hon
  have hcap1 : exec (.cap .first s.cfg.center) { s with dispEvt := 0 } =
      .next { s with cap1 := s.cfg.center, dispEvt := 0 } := exec_cap_of_enabled _ _ hok hen
  have hcap2 : exec (.cap .second s.cfg.center) { s with cap1 := s.cfg.center, dispEvt := 0 } =
      .next { s with cap1 := s.cfg.center, cap2 := s.cfg.center, dispEvt := 0 } := exec_cap_of_enabled _ _ hok hen
  have htick := exec_tick_of_match (s := { s with cap1 := s.cfg.center, cap2 := s.cfg.center, dispEvt := 0 })
    hok hat hcnt rfl rfl
  exact runStrobed_cons_of_quiet hcap1 rfl
    (runStrobed_cons_of_quiet hcap2 rfl (runStrobed_cons_of_quiet htick rfl (runStrobed_nil _)))

/-! ### An RXB, and a string of them (30_encoding.md R90) -/

/-- An RXB completes in every state without a reserved code, with one of its effects (20_memory.md R64). -/
theorem exec_rxb_completes {s : State} (b : Byte) (hok : s.CodesOk) :
    ∃ t, exec (.rxb b) s = .next t ∧ RxEffect b s.begun t := by
  cases hen : s.producersEnabled with
  | false => exact ⟨_, exec_rxb_of_disabled b hok hen, .disabled (s.producersEnabled_eq_false_iff.1 hen)⟩
  | true =>
    obtain ⟨-, -, hfa, -⟩ := s.codesOk_iff.1 hok
    obtain ⟨op, hop⟩ := rxSel_ne_none s.faState b s.frameFull hfa
    exact ⟨_, exec_rxb_of_rxSel hok hen hop, .of_rxSel (s.producersEnabled_iff.1 hen) hop⟩

theorem codesOk_fatalEntry (c : FatalCode) {s : State} (h : s.CodesOk) : (fatalEntry c s).CodesOk := by
  obtain ⟨-, -, hfa, -⟩ := s.codesOk_iff.1 h
  have hcode : c.code ≠ 3 := by cases c <;> decide
  exact codesOk_of_at (ph := .halted) (sb := .decide) ⟨rfl, rfl⟩ (by decide)
    (by decide : decodePrim primHalt ≠ none) hfa hcode

/-- No effect of an RXB brings in a reserved code. -/
theorem RxEffect.codesOk {b : Byte} {s t : State} (he : RxEffect b s t) (h : s.CodesOk) : t.CodesOk := by
  cases he with
  | disabled | ignoresIdle | collects | ignoresAccepted => exact h
  | starts => exact h.of_faState .collecting rfl rfl rfl rfl
  | accepts => exact h.of_faState .accepted rfl rfl rfl rfl
  | rejects => exact h.of_faState .idle rfl rfl rfl rfl
  | overflows => exact codesOk_fatalEntry _ h

/-- What bytes received leave alone: the samples, the log with its counters, the suppression flag, and the phase unless
the block halts (20_memory.md R61). -/
structure KeptByBytes (s t : State) : Prop where
  samples : t.cap1 = s.cap1 ∧ t.cap2 = s.cap2
  log : SameLog s t
  ridx : t.ridx = s.ridx
  suppress : t.suppress = s.suppress
  phase : t.phase = s.phase ∨ t.phase = Phase.halted.code

theorem KeptByBytes.refl (s : State) : KeptByBytes s s := ⟨⟨rfl, rfl⟩, ⟨rfl, fun _ => rfl⟩, rfl, rfl, .inl rfl⟩

theorem KeptByBytes.begun (s : State) : KeptByBytes s s.begun := ⟨⟨rfl, rfl⟩, ⟨rfl, fun _ => rfl⟩, rfl, rfl, .inl rfl⟩

theorem KeptByBytes.trans {s t u : State} (hst : KeptByBytes s t) (htu : KeptByBytes t u) : KeptByBytes s u where
  samples := ⟨htu.samples.1.trans hst.samples.1, htu.samples.2.trans hst.samples.2⟩
  log := ⟨htu.log.1.trans hst.log.1, fun i => (htu.log.2 i).trans (hst.log.2 i)⟩
  ridx := htu.ridx.trans hst.ridx
  suppress := htu.suppress.trans hst.suppress
  phase := by
    obtain heq | hhalt := htu.phase
    · rw [heq]
      exact hst.phase
    · exact .inr hhalt

theorem RxEffect.keptByBytes {b : Byte} {s t : State} (he : RxEffect b s t) : KeptByBytes s t where
  samples := he.samples_eq
  log := he.sameLog
  ridx := by cases he <;> rfl
  suppress := he.suppress_eq
  phase := by
    cases he with
    | overflows => exact .inr rfl
    | _ => exact .inl rfl

theorem runList_execRxb_cons {b : Byte} {bs : List Byte} {s u : State} (h : exec (.rxb b) s = .next u) :
    runList execRxb (b :: bs) s = runList execRxb bs u := by
  have hexec : execRxb b s = .next u := h
  rw [runList_cons, hexec, andThen_next]

/-- Any bytes, one after another, complete. -/
theorem runList_execRxb_completes (bs : List Byte) :
    ∀ {s : State}, s.CodesOk → ∃ t, runList execRxb bs s = .next t ∧ KeptByBytes s t := by
  induction bs with
  | nil => exact fun {s} _ => ⟨s, rfl, .refl s⟩
  | cons b bs ih =>
    intro s hok
    obtain ⟨u, hu, he⟩ := exec_rxb_completes b hok
    obtain ⟨t, ht, hkept⟩ := ih (he.codesOk hok)
    exact ⟨t, (runList_execRxb_cons hu).trans ht, ((KeptByBytes.begun s).trans he.keptByBytes).trans hkept⟩

/-- `RXS` of ASCII characters runs them. -/
theorem exec_rxs_of_ascii {bs : List Byte} (s : State) (hascii : ∀ b ∈ bs, isAscii b = true) :
    exec (.rxs bs) s = runList execRxb bs s := by
  have hwf : (Instr.rxs bs).wellFormed = true := List.all_eq_true.2 hascii
  simp [exec, execRxs, hwf]

/-- `FRAME` of ASCII characters runs them between the markers. -/
theorem exec_frame_of_ascii {bs : List Byte} (s : State) (hascii : ∀ b ∈ bs, isAscii b = true) :
    exec (.frame bs) s = runList execRxb (stx :: bs ++ [etx]) s := by
  have hwf : (Instr.frame bs).wellFormed = true := List.all_eq_true.2 hascii
  simp [exec, execFrame, hwf]

theorem isAscii_of_mem_marked {bs : List Byte} (hascii : ∀ b ∈ bs, isAscii b = true) :
    ∀ b ∈ stx :: bs ++ [etx], isAscii b = true := by
  intro b hb
  simp only [List.mem_append, List.mem_cons, List.not_mem_nil, or_false] at hb
  obtain (rfl | hb) | rfl := hb
  · decide
  · exact hascii b hb
  · decide

/-- Settles O23: each RXB completes and keeps the state free of reserved codes, so the next one completes too. -/
theorem rxsRunsEachByte : Obligations.RxsRunsEachByte := by
  intro s bs hok hascii
  refine ⟨?_, ?_, ?_, ?_⟩
  · rintro b cs rfl
    obtain ⟨u, hu, -⟩ := exec_rxb_completes b hok
    have hrest : ∀ c ∈ cs, isAscii c = true := fun c hc => hascii c (List.mem_cons_of_mem _ hc)
    refine ⟨u, hu, ?_⟩
    rw [exec_rxs_of_ascii s hascii, exec_rxs_of_ascii u hrest, runList_execRxb_cons hu]
  · rw [exec_frame_of_ascii s hascii]
    exact (exec_rxs_of_ascii s (isAscii_of_mem_marked hascii)).symm
  · obtain ⟨t, ht, ⟨hcap1, hcap2⟩, ⟨hcur, hlog⟩, hridx, hsup, hphase⟩ := runList_execRxb_completes bs hok
    exact ⟨t, (exec_rxs_of_ascii s hascii).trans ht, hcap1, hcap2, hcur, hridx, hsup, hphase, hlog⟩
  · obtain ⟨t, ht, -⟩ := runList_execRxb_completes (stx :: bs ++ [etx]) hok
    exact ⟨t, (exec_frame_of_ascii s hascii).trans ht⟩

end Sys2Proof.Machine
end

section
/-! PROOF. Under the invariant no transaction of the stream is a model fault (10_state.md R41): the conditions under
which a tick would fault are the ones the invariant excludes, and a word that does not decode is refused. -/

namespace Sys2Proof.Machine

open Sys2Proof

/-! ### The micro-operations that can fault -/

theorem dwellBody_completes {s : State} (done : State → State) (h : 1 ≤ s.dwellCnt) :
    ∃ t, dwellBody done s = .next t := by
  unfold dwellBody
  rw [if_neg (by omega)]
  split <;> exact ⟨_, rfl⟩

theorem displayBody_completes {s : State} (h : 1 ≤ s.hbCnt) : ∃ t, displayBody s = .next t := by
  unfold displayBody
  rw [if_neg (by omega)]
  split <;> exact ⟨_, rfl⟩

/-- Every entry up to the cursor holds a tag (20_memory.md R52). -/
theorem State.Inv.logEntry_eq_some {s : State} (h : s.Inv) {i : Nat} (hpos : i ≠ 0) (hle : i ≤ s.cursor) :
    ∃ t, s.logEntry i = some t := by
  obtain ⟨-, -, -, -, -, -, hread⟩ := h
  obtain ⟨j, rfl⟩ := Nat.exists_eq_succ_of_ne_zero hpos
  obtain ⟨t, ht⟩ := Option.isSome_iff_exists.1 (hread j hle)
  exact ⟨t, by simp [State.logEntry, hle, ht]⟩

theorem returnStepBody_completes {s : State} (h : s.Inv) : ∃ t, returnStepBody s = .next t := by
  obtain ⟨-, ⟨-, hridx, -⟩, -⟩ := id h
  unfold returnStepBody
  by_cases hend : s.ridx = 0
  · rw [if_pos hend]
    exact ⟨_, rfl⟩
  · obtain ⟨t, ht⟩ := h.logEntry_eq_some hend hridx
    rw [if_neg hend, ht]
    exact ⟨_, rfl⟩

/-- The selected micro-operation completes: at its home the counter it lowers is not 0. -/
theorem microOpBody_completes {s : State} {m : MicroOp} (h : s.Inv)
    (hm : tickSel s.stateVector s.lastDwellTick = some m) : ∃ t, microOpBody m s = .next t := by
  obtain ⟨hphase, hsub⟩ := at_home_of_tickSel hm
  obtain ⟨-, ⟨-, -, -, hdwell, -, hhb, -⟩, -⟩ := id h
  cases m with
  | searchDwell | searchCheck | dwellTickTracking | dwellTickReturning => exact dwellBody_completes _ (hdwell hsub)
  | displayTick => exact displayBody_completes (hhb hphase)
  | returnStep => exact returnStepBody_completes h
  | searchSpin | trackDecide | rampTickTracking | rampTickArrived | rampTickReturning | haltTick => exact ⟨_, rfl⟩

/-! ### The transactions -/

theorem exec_tick_completes {s : State} (h : s.Inv) : ∃ t, exec .tick s = .next t := by
  have hbegun : s.begun.Inv := h
  obtain ⟨m, hm⟩ := tickSel_ne_none _ s.lastDwellTick (s.codesOk_iff.1 h.1).1
  obtain ⟨t, ht⟩ := microOpBody_completes hbegun hm
  exact ⟨t, by rw [exec_tick_of_tickSel hm, transaction_of_codesOk h.1, ht]⟩

theorem exec_cap_completes {s : State} (r : Receiver) (v : Byte) (hok : s.CodesOk) :
    ∃ t, exec (.cap r v) s = .next t := by
  cases hen : s.producersEnabled with
  | false => exact ⟨_, exec_cap_of_disabled r v hok hen⟩
  | true => exact ⟨_, exec_cap_of_enabled r v hok hen⟩

/-- The transaction of a word completes in every state with the invariant. -/
theorem exec_completes {s : State} {w : Word} {i : Instr} (h : s.Inv) (hi : decodeWord w = .ok i) :
    ∃ t, exec i s = .next t := by
  obtain ⟨r, v⟩ | ⟨b⟩ | _ | _ := decodeWord_eq_ok_iff.1 hi
  · exact exec_cap_completes r v h.1
  · obtain ⟨t, ht, -⟩ := exec_rxb_completes b h.1
    exact ⟨t, ht⟩
  · exact exec_tick_completes h
  · exact ⟨_, rfl⟩

/-! ### The reserved words (30_encoding.md R77) -/

/-- The reserved bits of a word, on its kind and its byte. -/
theorem reservedBits_append_iff (k : BitVec 4) (b : Byte) : ReservedBits (k ++ b) ↔
    (k.extractLsb' 2 2 = 0 ∧ k.getLsbD 1 = true) ∨ (k.extractLsb' 2 2 = 1 ∧ k.extractLsb' 0 2 ≠ 0) ∨
    ((k.extractLsb' 2 2 = 2 ∨ k.extractLsb' 2 2 = 3) ∧ ¬(k.extractLsb' 0 2 = 0 ∧ b = 0)) := by
  have hkind : (k ++ b).extractLsb' 10 2 = k.extractLsb' 2 2 := BitVec.extractLsb'_append_eq_of_le (by omega)
  have hbit : (k ++ b).getLsbD 9 = k.getLsbD 1 := BitVec.getLsbD_append.trans (if_neg (by omega))
  have htwo : (k ++ b).extractLsb' 8 2 = k.extractLsb' 0 2 := BitVec.extractLsb'_append_eq_of_le (by omega)
  have hbyte : (k ++ b).extractLsb' 0 8 = b := BitVec.extractLsb'_append_eq_right
  have hten : (k ++ b).extractLsb' 8 2 ++ (k ++ b).extractLsb' 0 8 = (k ++ b).extractLsb' 0 10 :=
    BitVec.extractLsb'_append_extractLsb'_eq_extractLsb' rfl
  rw [htwo, hbyte] at hten
  have hzero : k.extractLsb' 0 2 ++ b = 0 ↔ k.extractLsb' 0 2 = 0 ∧ b = 0 := append_eq_append_iff (c := 0) (d := 0)
  unfold ReservedBits
  rw [hkind, hbit, htwo, ← hten]
  exact or_congr_right (or_congr_right (and_congr_right fun _ => not_congr hzero))

/-- A word with none of the reserved bits is the word of a transaction. -/
theorem exists_isWordOf_of_not_reservedBits {w : Word} (h : ¬ReservedBits w) : ∃ i, IsWordOf i w := by
  obtain ⟨k, b, rfl⟩ := w.exists_append
  have kinds : ∀ (k : BitVec 4) (zero : Bool),
      ¬((k.extractLsb' 2 2 = 0 ∧ k.getLsbD 1 = true) ∨ (k.extractLsb' 2 2 = 1 ∧ k.extractLsb' 0 2 ≠ 0) ∨
        ((k.extractLsb' 2 2 = 2 ∨ k.extractLsb' 2 2 = 3) ∧ ¬(k.extractLsb' 0 2 = 0 ∧ zero = true))) →
      k = 0x0 ∨ k = 0x1 ∨ k = 0x4 ∨ (k = 0x8 ∧ zero = true) ∨ (k = 0xC ∧ zero = true) := by decide
  have hk := kinds k (decide (b = 0))
  rw [decide_eq_true_iff, ← reservedBits_append_iff] at hk
  obtain rfl | rfl | rfl | ⟨rfl, rfl⟩ | ⟨rfl, rfl⟩ := hk h
  · exact ⟨_, .cap .first b⟩
  · exact ⟨_, .cap .second b⟩
  · exact ⟨_, .rxb b⟩
  · exact ⟨_, .tick⟩
  · exact ⟨_, .rst⟩

/-- A word that does not decode has one of the reserved bits. -/
theorem reservedBits_of_decodeWord_error {w : Word} {e : DecodeError} (h : decodeWord w = .error e) :
    ReservedBits w := by
  by_contra hbits
  obtain ⟨i, hi⟩ := exists_isWordOf_of_not_reservedBits hbits
  cases h.symm.trans (decodeWord_eq_ok_iff.2 hi)

/-- Settles O53: no word is idle, a word that decodes completes, and one that does not is refused. -/
theorem noStepFaultsUnderTheInvariant : Obligations.NoStepFaultsUnderTheInvariant := by
  intro s h
  have hstep : (∃ t, step s = .next t) ∨
      ∃ w, s.input.head? = some w ∧ ReservedBits w ∧ step s = .refused (.reservedWord w) := by
    cases hin : s.input with
    | nil => exact .inl ⟨s, step_of_input_nil hin h.1⟩
    | cons w rest =>
      cases hd : decodeWord w with
      | ok i =>
        have htaken : State.Inv { s with input := rest } := h
        rw [step_of_decodeWord_ok hin hd]
        exact .inl (exec_completes htaken hd)
      | error e => exact .inr ⟨w, rfl, reservedBits_of_decodeWord_error hd, step_of_decodeWord_error hin hd⟩
  refine ⟨fun f hf => ?_, hstep⟩
  obtain ⟨t, ht⟩ | ⟨w, -, -, hw⟩ := hstep
  · cases ht.symm.trans hf
  · cases hw.symm.trans hf

end Sys2Proof.Machine
end

section
/-! PROOF. The text form of a program (30_encoding.md R89, R90), on sample lines. -/

namespace Sys2Proof.Machine

open Sys2Proof

theorem assemble_cons {line : List Char} {rest : List (List Char)} {is : List Instr} {ws : List Word}
    (hline : assembleLine line = some is) (hrest : assemble rest = some ws) :
    assemble (line :: rest) = some (is.flatMap transactionWords ++ ws) := by
  simp [assemble, hline, hrest]

/-- Settles O59: the program line by line, and each line by itself. -/
theorem assemblerReadsSampleLines : Obligations.AssemblerReadsSampleLines := by
  refine ⟨?program, by decide, by decide, by decide, by decide⟩
  have hrst : assembleLine ['R', 'S', 'T'] = some [.rst] := by decide
  have hcap : assembleLine ['c', 'a', 'p', ' ', '1', ',', ' ', '0', 'x', 'C', '3', ';', 'x'] =
      some [.cap .first 0xC3] := by decide
  have hrxb : assembleLine ['R', 'X', 'B', ' ', '\'', '1', '\''] = some [.rxb 0x31] := by decide
  have hticks : assembleLine ['T', 'I', 'C', 'K', 'S', ' ', '2'] = some [.ticks 2] := by decide
  have hframe : assembleLine ['F', 'R', 'A', 'M', 'E', ' ', '"', '1', '"'] = some [.frame [0x31]] := by decide
  exact assemble_cons hrst (assemble_cons hcap (assemble_cons hrxb (assemble_cons hticks (assemble_cons hframe rfl))))

end Sys2Proof.Machine
end

section
/-! PROOF. Actuation (40_actuation.md): the primitives, the Stop ramp tick by tick, the duty law, and the outputs as
functions of the state. -/

namespace Sys2Proof

/-- A legal PWM period fits 16 bits (00_scope.md R7). -/
theorem Config.pwm_lt (c : Config) : c.pwmL < 2 ^ 16 ∧ c.pwmR < 2 ^ 16 := by
  have h := c.isLegal
  simp only [Params.legal, Bool.and_eq_true, inRange_iff] at h
  omega

end Sys2Proof

namespace Sys2Proof.Machine

open Sys2Proof

/-! ### Lowering the powers (40_actuation.md R107) -/

theorem satDec_eq_ofNat (v : BitVec 7) : satDec v = BitVec.ofNat 7 (v.toNat - 1) := by
  unfold satDec
  split
  · next hv => simp [hv]
  · next hv => bv_omega

theorem satDec_eq_zero_iff (v : BitVec 7) : satDec v = 0 ↔ v.toNat ≤ 1 := by
  rw [satDec_eq_ofNat]
  bv_omega

@[simp] theorem toNat_rampLowered_pwrL (k : Nat) (s : State) : (rampLowered k s).pwrL.toNat = s.pwrL.toNat - k :=
  (BitVec.toNat_ofNat ..).trans (Nat.mod_eq_of_lt (by omega))

@[simp] theorem toNat_rampLowered_pwrR (k : Nat) (s : State) : (rampLowered k s).pwrR.toNat = s.pwrR.toNat - k :=
  (BitVec.toNat_ofNat ..).trans (Nat.mod_eq_of_lt (by omega))

theorem rampPowers_begun (s : State) : rampPowers s.begun = rampLowered 1 s := by
  simp [rampPowers, rampLowered, State.begun, satDec_eq_ofNat]

theorem rampLowered_rampLowered (j k : Nat) (s : State) : rampLowered j (rampLowered k s) = rampLowered (k + j) s := by
  rw [rampLowered, toNat_rampLowered_pwrL, toNat_rampLowered_pwrR, Nat.sub_sub, Nat.sub_sub]
  rfl

/-- The end of a ramp is the same from everywhere along it: it writes every element a ramp tick lowers. -/
theorem rampCompleted_rampLowered (k : Nat) (s : State) : rampCompleted (rampLowered k s) = rampCompleted s := rfl

/-! ### One tick of the ramp -/

/-- The state after one tick of a Stop ramp: the completed ramp when no power is above 1. -/
def rampTicked (s : State) : State :=
  if s.pwrL.toNat ≤ 1 ∧ s.pwrR.toNat ≤ 1 then rampCompleted s else rampLowered 1 s

theorem rampTicked_of_last {s : State} (hL : s.pwrL.toNat ≤ 1) (hR : s.pwrR.toNat ≤ 1) :
    rampTicked s = rampCompleted s := if_pos ⟨hL, hR⟩

theorem rampTicked_of_lt_max {s : State} (h : 1 < max s.pwrL.toNat s.pwrR.toNat) : rampTicked s = rampLowered 1 s :=
  if_neg (by omega)

/-- A ramp step inside a TICK is `rampTicked`, for a completion that is the phase's own. -/
theorem rampStep_begun {done : State → State} {s : State}
    (hdone : satDec s.pwrL = 0 → satDec s.pwrR = 0 → done (rampPowers s.begun) = rampCompleted s) :
    rampStep done s.begun = rampTicked s := by
  obtain ⟨hL, hR, heq⟩ | ⟨hgo, heq⟩ := rampStep_cases done s.begun
  · rw [rampPowers_pwrL, State.begun_pwrL] at hL
    rw [rampPowers_pwrR, State.begun_pwrR] at hR
    rw [heq, hdone hL hR, rampTicked_of_last ((satDec_eq_zero_iff _).1 hL) ((satDec_eq_zero_iff _).1 hR)]
  · simp only [rampPowers_pwrL, rampPowers_pwrR, State.begun_pwrL, State.begun_pwrR, satDec_eq_zero_iff] at hgo
    rw [heq, rampPowers_begun, rampTicked_of_lt_max (by omega)]

theorem rampDoneTracking_eq_rampCompleted {s : State} (hphase : s.phase = Phase.tracking.code)
    (hL : satDec s.pwrL = 0) (hR : satDec s.pwrR = 0) :
    rampDoneTracking (rampPowers s.begun) = rampCompleted s := by
  rw [rampCompleted, if_pos hphase]
  simp [rampDoneTracking, State.setPc, rampPowers, State.begun, hphase, hL, hR, Sub.code]

theorem rampDoneArrived_eq_rampCompleted {s : State} (hphase : s.phase = Phase.arrived.code)
    (hL : satDec s.pwrL = 0) (hR : satDec s.pwrR = 0) :
    rampDoneArrived (rampPowers s.begun) = rampCompleted s := by
  rw [rampCompleted, if_neg (by simp [hphase, Phase.code_inj]), if_pos hphase]
  simp [rampDoneArrived, State.setPc, rampPowers, State.begun, hL, hR, Sub.code, Phase.code]

theorem rampDoneReturning_eq_rampCompleted {s : State} (hphase : s.phase = Phase.returning.code)
    (hL : satDec s.pwrL = 0) (hR : satDec s.pwrR = 0) :
    rampDoneReturning (rampPowers s.begun) = rampCompleted s := by
  rw [rampCompleted, if_neg (by simp [hphase, Phase.code_inj]), if_neg (by simp [hphase, Phase.code_inj])]
  simp [rampDoneReturning, emit, strobePayload, State.setPc, rampPowers, State.begun, hL, hR, Sub.code, Phase.code]

/-- Without a reserved code, RAMP occurs only in the phases that ramp (10_state.md R41, 30_encoding.md R78). -/
theorem State.CodesOk.ramps {s : State} (h : s.CodesOk) (hsub : s.sub = Sub.ramp.code) :
    s.phase = Phase.tracking.code ∨ s.phase = Phase.arrived.code ∨ s.phase = Phase.returning.code := by
  obtain ⟨m, hphase, hm⟩ := h.exists_home
  have hramp : m.home.2 = .ramp := Sub.code_inj.1 (hm.symm.trans hsub)
  cases m with
  | rampTickTracking => exact .inl hphase
  | rampTickArrived => exact .inr (.inl hphase)
  | rampTickReturning => exact .inr (.inr hphase)
  | _ => simp [MicroOp.home] at hramp

/-- A TICK whose micro-operation is a ramp step with the completion of its phase. -/
theorem exec_tick_of_rampStep {s : State} {ph : Phase} {m : MicroOp} {done : State → State} (hok : s.CodesOk)
    (hat : s.At ph .ramp) (hsel : ∀ last, tickSel (ph.code ++ Sub.ramp.code) last = some m)
    (hbody : ∀ u, microOpBody m u = .next (rampStep done u))
    (hdone : satDec s.pwrL = 0 → satDec s.pwrR = 0 → done (rampPowers s.begun) = rampCompleted s) :
    exec .tick s = .next (rampTicked s) := by
  obtain ⟨hperf, -⟩ := performs_of_stateVector ((s.stateVector_eq_iff ph .ramp).2 hat) hsel
  rw [hperf, transaction_of_codesOk hok, hbody, rampStep_begun hdone]

/-- A TICK in RAMP performs the RAMP_TICK of its phase. -/
theorem exec_tick_of_ramp {s : State} (hok : s.CodesOk) (hsub : s.sub = Sub.ramp.code) :
    exec .tick s = .next (rampTicked s) := by
  obtain hphase | hphase | hphase := hok.ramps hsub
  · exact exec_tick_of_rampStep (m := .rampTickTracking) hok ⟨hphase, hsub⟩ (fun _ => rfl) (fun _ => rfl)
      (rampDoneTracking_eq_rampCompleted hphase)
  · exact exec_tick_of_rampStep (m := .rampTickArrived) hok ⟨hphase, hsub⟩ (fun _ => rfl) (fun _ => rfl)
      (rampDoneArrived_eq_rampCompleted hphase)
  · exact exec_tick_of_rampStep (m := .rampTickReturning) hok ⟨hphase, hsub⟩ (fun _ => rfl) (fun _ => rfl)
      (rampDoneReturning_eq_rampCompleted hphase)

/-- Settles O30: each row is the TICK, which in RAMP is the ramp tick of the phase. -/
theorem rampTickLowersBothPowers : Obligations.RampTickLowersBothPowers := by
  intro s hok hsub out
  have hrow : ∀ m : MicroOp, exec m.instr s = .next out := fun m =>
    (exec_microOp_eq_tick m s).trans (exec_tick_of_ramp hok hsub)
  exact ⟨fun _ => hrow .rampTickTracking, fun _ => hrow .rampTickArrived, fun _ => hrow .rampTickReturning⟩

/-! ### The whole ramp -/

theorem exec_ticks_eq_tickTimes {n : Nat} (s : State) (h : 1 ≤ n) : exec (.ticks n) s = tickTimes n s :=
  if_pos (decide_eq_true h)

theorem tickTimes_succ_of_ramp {s : State} (n : Nat) (hok : s.CodesOk) (hsub : s.sub = Sub.ramp.code) :
    tickTimes (n + 1) s = tickTimes n (rampTicked s) := by
  have htick : execTick s = .next (rampTicked s) := exec_tick_of_ramp hok hsub
  rw [tickTimes_succ, htick, andThen_next]

/-- Before the larger power is used up, `n + 1` ticks lower both powers by `n + 1`. -/
theorem tickTimes_rampLowered (n : Nat) {s : State} (hok : s.CodesOk) (hsub : s.sub = Sub.ramp.code)
    (h : n + 1 < max s.pwrL.toNat s.pwrR.toNat) : tickTimes (n + 1) s = .next (rampLowered (n + 1) s) := by
  induction n generalizing s with
  | zero => rw [tickTimes_succ_of_ramp 0 hok hsub, tickTimes_zero, rampTicked_of_lt_max h]
  | succ n ih =>
    have hrest : n + 1 < max (rampLowered 1 s).pwrL.toNat (rampLowered 1 s).pwrR.toNat := by
      simp only [toNat_rampLowered_pwrL, toNat_rampLowered_pwrR]
      omega
    rw [tickTimes_succ_of_ramp _ hok hsub, rampTicked_of_lt_max (by omega), ih (s := rampLowered 1 s) hok hsub hrest,
      rampLowered_rampLowered, Nat.add_comm 1]

/-- The tick that uses up the larger power, the `max(a, b, 1)`-th, completes the ramp. -/
theorem tickTimes_rampCompleted (n : Nat) {s : State} (hok : s.CodesOk) (hsub : s.sub = Sub.ramp.code)
    (h : max (max s.pwrL.toNat s.pwrR.toNat) 1 = n + 1) : tickTimes (n + 1) s = .next (rampCompleted s) := by
  induction n generalizing s with
  | zero => rw [tickTimes_succ_of_ramp 0 hok hsub, tickTimes_zero, rampTicked_of_last (by omega) (by omega)]
  | succ n ih =>
    have hrest : max (max (rampLowered 1 s).pwrL.toNat (rampLowered 1 s).pwrR.toNat) 1 = n + 1 := by
      simp only [toNat_rampLowered_pwrL, toNat_rampLowered_pwrR]
      omega
    rw [tickTimes_succ_of_ramp _ hok hsub, rampTicked_of_lt_max (by omega), ih (s := rampLowered 1 s) hok hsub hrest,
      rampCompleted_rampLowered]

/-- Settles O31: the ticks on the way, and the one that completes. -/
theorem rampTakesTheLargerPower : Obligations.RampTakesTheLargerPower := by
  intro s hok hsub
  constructor
  · intro k hpos hlt
    obtain ⟨n, rfl⟩ := Nat.exists_eq_add_of_le' hpos
    exact (exec_ticks_eq_tickTimes s hpos).trans (tickTimes_rampLowered n hok hsub hlt)
  · obtain ⟨n, hn⟩ := Nat.exists_eq_add_of_le' (Nat.le_max_right (max s.pwrL.toNat s.pwrR.toNat) 1)
    rw [hn, exec_ticks_eq_tickTimes s (Nat.le_add_left 1 n)]
    exact tickTimes_rampCompleted n hok hsub hn

/-! ### The duty (40_actuation.md R100) -/

/-- A percentage of the period is at most the period, and so is the period less that. -/
theorem dutyValue_le {power : BitVec 7} (dir : Bool) (period : Nat) (h : power.toNat ≤ 100) :
    dutyValue power dir period ≤ period := by
  have hpart : power.toNat * period / 100 ≤ period :=
    Nat.div_le_of_le_mul (Nat.mul_le_mul_right period h)
  unfold dutyValue
  split
  · exact Nat.sub_le ..
  · exact hpart

/-- A duty fits its 16 bits, as the period does. -/
theorem toNat_ofNat_dutyValue {power : BitVec 7} (dir : Bool) {period : Nat} (h : power.toNat ≤ 100)
    (hperiod : period < 2 ^ 16) : (BitVec.ofNat 16 (dutyValue power dir period)).toNat = dutyValue power dir period :=
  (BitVec.toNat_ofNat ..).trans (Nat.mod_eq_of_lt ((dutyValue_le dir period h).trans_lt hperiod))

/-- Settles O46: each duty is the duty value, uncut, and that is within the period. -/
theorem dutyLaw : Obligations.DutyLaw := by
  intro s hL hR
  obtain ⟨hpwmL, hpwmR⟩ := s.cfg.pwm_lt
  have hdutyL : s.dutyL.toNat = dutyValue s.pwrL s.dirL s.cfg.pwmL := toNat_ofNat_dutyValue _ hL hpwmL
  have hdutyR : s.dutyR.toNat = dutyValue s.pwrR s.dirR s.cfg.pwmR := toNat_ofNat_dutyValue _ hR hpwmR
  rw [hdutyL, hdutyR]
  refine ⟨dutyValue_le _ _ hL, dutyValue_le _ _ hR, ?_, ?_, ?_, ?_⟩
  all_goals
    intro hdir
    simp [dutyValue, hdir]

/-! ### The primitives (40_actuation.md R104 to R119) -/

theorem issueAndHold_eq_driven (p : RomPrim) (s : State) : issueAndHold p s = driven p s := rfl

/-- Each row of format PRIM with a ROM row is ISSUE and HOLD of its own primitive. -/
theorem exec_romPrim (p : RomPrim) (s : State) : exec p.instr s = .next (driven p s) := by
  rw [← issueAndHold_eq_driven]
  cases p <;> rfl

/-- Settles O44: the rows with a ROM row together, STOP and HALT each by its own writes. -/
theorem primitivesDriveTheirRow : Obligations.PrimitivesDriveTheirRow :=
  ⟨exec_romPrim, fun _ => ⟨rfl, rfl⟩⟩

/-- Settles O45: the row that each primitive drives, read in the default ROM. -/
theorem defaultPrimitiveTable : Obligations.DefaultPrimitiveTable := by
  intro s hrom p
  refine ⟨driven p s, exec_romPrim p s, ?_⟩
  cases p <;> simp [driven, dwellMult, hrom, romRow, defaultRom]

/-! ### The outputs (10_state.md R39) -/

/-- A duty is its high byte and its low byte (40_actuation.md R101). -/
theorem dutyHigh_append_dutyLow (d : BitVec 16) : dutyHigh d ++ dutyLow d = d :=
  (BitVec.extractLsb'_append_extractLsb'_eq_extractLsb' (start₁ := 0) (len₁ := 8) rfl).trans
    BitVec.extractLsb'_eq_self

theorem getD_payload (s : State) {k : Nat} (h : k < 10) : s.outputs.payload.getD k 0 = s.payloadOut k := by
  simp [State.outputs, List.getD_eq_getElem?_getD, h]

/-- Settles O47: the duties from their bytes, the payload byte by byte, and every other output by its definition. -/
theorem outputsFollowTheState : Obligations.OutputsFollowTheState := by
  intro s
  exact ⟨dutyHigh_append_dutyLow _, dutyHigh_append_dutyLow _, rfl, rfl, rfl, rfl, rfl, rfl, rfl, rfl,
    fun _ => getD_payload s, rfl⟩

end Sys2Proof.Machine
end

section
/-! PROOF. The sensor capture store (41_sensor_capture.md): what a CAP and the pair CAPS write. -/

namespace Sys2Proof.Machine

open Sys2Proof

/-- `CAPS a, b` is the CAP to the first register, then the CAP to the second (30_encoding.md R90). -/
theorem exec_caps_eq_of_cap {a b : Byte} {s t : State} (hfirst : exec (.cap .first a) s = .next t) :
    exec (.caps a b) s = exec (.cap .second b) t :=
  congrArg (andThen · (execCap .second b)) hfirst

/-- A CAP leaves the producers enabled, so both CAPs of a CAPS write. -/
theorem exec_caps_of_enabled {s : State} (a b : Byte) (hok : s.CodesOk) (hon : s.producersEnabled = true) :
    exec (.caps a b) s = .next ((s.begun.writeCapture .first a).writeCapture .second b) :=
  (exec_caps_eq_of_cap (exec_cap_of_enabled .first a hok hon)).trans
    (exec_cap_of_enabled (s := s.begun.writeCapture .first a) .second b hok hon)

theorem exec_caps_of_disabled {s : State} (a b : Byte) (hok : s.CodesOk) (hoff : s.producersEnabled = false) :
    exec (.caps a b) s = .next s.begun :=
  (exec_caps_eq_of_cap (exec_cap_of_disabled .first a hok hoff)).trans
    (exec_cap_of_disabled (s := s.begun) .second b hok hoff)

/-- Settles O11: a CAP by its receiver, a CAPS by its two CAPs, each with the producers enabled and disabled. -/
theorem capWritesOneSample : Obligations.CapWritesOneSample := by
  intro s hok
  refine ⟨fun hon r v => ?_, fun hoff r v => ?_, fun hon a b => ?_, fun hoff a b => ?_⟩
  · rw [exec_cap_of_enabled r v hok (s.producersEnabled_iff.2 hon)]
    cases r <;> rfl
  · exact exec_cap_of_disabled r v hok (s.producersEnabled_eq_false_iff.2 hoff)
  · exact exec_caps_of_enabled a b hok (s.producersEnabled_iff.2 hon)
  · exact exec_caps_of_disabled a b hok (s.producersEnabled_eq_false_iff.2 hoff)

end Sys2Proof.Machine
end

section
/-! PROOF. The micro-operations of a TICK, each in the states that select it (42_navigation.md R142 to R153): a row at
its home is its body, and a lemma per body and branch says what that body answers. -/

namespace Sys2Proof.Machine

open Sys2Proof

/-! ### A micro-operation at its home (30_encoding.md R76) -/

/-- A TICK at the home of a micro-operation runs its body. SEARCH_DWELL and SEARCH_CHECK share home and body. -/
theorem exec_tick_of_home (m : MicroOp) {s : State} (hok : s.CodesOk) (hat : s.At m.home.1 m.home.2) :
    exec .tick s = microOpBody m s.begun := by
  have hv : s.stateVector = m.home.1.code ++ m.home.2.code := (s.stateVector_eq_iff _ _).2 hat
  have hperf : exec .tick s = transaction (microOpBody m) s := by
    cases m with
    | searchDwell | searchCheck => exact (performs_searchDwell hv).1
    | _ => exact (performs_of_stateVector hv fun _ => rfl).1
  rw [hperf, transaction_of_codesOk hok]

/-! ### Decisions that record (42_navigation.md R142, R145, R148 to R151) -/

theorem appendThen_of_room {s : State} (t : Tag) (rest : State → State) (hroom : s.cursor < s.cfg.cap) :
    appendThen t rest s = rest (s.recorded t) := by
  have hnot : s.logFull = false := decide_eq_false (by omega)
  simp [appendThen, hnot, State.recorded]

theorem appendThen_of_full {s : State} (t : Tag) (rest : State → State) (hfull : s.cfg.cap ≤ s.cursor) :
    appendThen t rest s = fatalEntry .pathlogOverflow s :=
  if_pos (decide_eq_true hfull)

/-- The fatal entry inside a transaction: FATAL is its only strobe. -/
theorem fatalEntry_begun (c : FatalCode) (s : State) : fatalEntry c s.begun = halted c 0b100 s := by
  have hstrobe : (0 : BitVec 3) ||| strobeFatal = 0b100 := by decide
  rw [← hstrobe]
  rfl

/-- The writes of APPEND on a log with room. -/
theorem appended_recorded (t : Tag) (s : State) : Appended t s (s.recorded t) :=
  ⟨rfl, Memory.logRead_logWrite_same .., fun _ hne => Memory.logRead_logWrite_other _ _ _ _ hne,
    fun _ => Memory.fbufRead_logWrite ..⟩

/-- A TICK that decides to record appends first, and then issues and holds. -/
theorem exec_tick_of_records {s : State} {tag : Tag} {p : RomPrim} (hok : s.CodesOk) (hr : Records s.begun tag p) :
    exec .tick s = .next (appendThen tag (issueAndHold p) s.begun) := by
  cases hr with
  | spin hat hs =>
    rw [exec_tick_of_home .searchSpin hok hat, microOpBody, searchSpinBody, hs]
    rfl
  | centered hat hb | right hat hb | left hat hb | equal hat hb =>
    rw [exec_tick_of_home .trackDecide hok hat, microOpBody, trackDecideBody, hb]

theorem exec_tick_of_records_with_room {s : State} {tag : Tag} {p : RomPrim} (hok : s.CodesOk)
    (hr : Records s.begun tag p) (hroom : s.cursor < s.cfg.cap) :
    ∃ u, Appended tag { s with dispEvt := 0 } u ∧ exec .tick s = .next (driven p u) :=
  ⟨s.begun.recorded tag, appended_recorded tag s.begun, by
    rw [exec_tick_of_records hok hr, appendThen_of_room (s := s.begun) tag _ hroom, issueAndHold_eq_driven]⟩

theorem exec_tick_of_records_on_full_log {s : State} {tag : Tag} {p : RomPrim} (hok : s.CodesOk)
    (hr : Records s.begun tag p) (hfull : s.cfg.cap ≤ s.cursor) :
    exec .tick s = .next (halted .pathlogOverflow 0b100 s) := by
  rw [exec_tick_of_records hok hr, appendThen_of_full (s := s.begun) tag _ hfull, fatalEntry_begun]

/-- Settles O26: the suppressed sweep spins at once; any later one is a decision that records. -/
theorem searchSpinRecordsAndSpins : Obligations.SearchSpinRecordsAndSpins := by
  intro s hok hat
  have hrow : exec .searchSpin s = exec .tick s := exec_microOp_eq_tick .searchSpin s
  rw [hrow]
  refine ⟨fun hs => ?_, fun hs hroom => ?_, fun hs hfull => ?_⟩
  · rw [exec_tick_of_home .searchSpin hok hat, microOpBody, searchSpinBody, State.begun_suppress, if_pos hs]
    rfl
  · exact exec_tick_of_records_with_room hok (.spin hat hs) hroom
  · exact exec_tick_of_records_on_full_log hok (.spin hat hs) hfull.ge

/-! ### TRACK_DECIDE (42_navigation.md R145) -/

/-- The signal is lost (42_navigation.md R147). -/
theorem signalLost_iff (c : Params) (c1 c2 : Byte) :
    signalLost c c1 c2 = true ↔ c1 = c.lost1 ∧ c2 ≤ c.lost2Max := by
  simp [signalLost]

theorem trackBranch_eq_lost_iff (c : Params) (fv : Bool) (c1 c2 : Byte) :
    trackBranch c fv c1 c2 = .lost ↔ fv = false ∧ c1 = c.lost1 ∧ c2 ≤ c.lost2Max := by
  rw [← signalLost_iff]
  unfold trackBranch
  split_ifs <;> simp_all

/-- Past the first two branches, the samples alone decide, and each of the four branches records. -/
theorem trackBranch_of_signal {c : Params} {fv : Bool} {c1 c2 : Byte} (hv : fv = false)
    (hsignal : ¬(c1 = c.lost1 ∧ c2 ≤ c.lost2Max)) :
    trackBranch c fv c1 c2 =
      if c1 = c.center ∧ c2 = c.center then .centered else if c2 < c1 then .right else if c1 < c2 then .left
      else .equal := by
  rw [← signalLost_iff] at hsignal
  simp only [trackBranch, hv, hsignal, centered_iff, Bool.false_eq_true, if_false]

/-- Past the first two branches TRACK_DECIDE records, whatever the samples. -/
theorem exists_records_of_signal {s : State} (hat : s.At .tracking .decide) (hv : s.frameValid = false)
    (hsignal : ¬(s.cap1 = s.cfg.lost1 ∧ s.cap2 ≤ s.cfg.lost2Max)) : ∃ tag p, Records s tag p := by
  cases hb : trackBranch s.cfg.toParams s.frameValid s.cap1 s.cap2 with
  | arrive => exact absurd ((trackBranch_eq_arrive_iff ..).1 hb) (by simp [hv])
  | lost => exact absurd ((trackBranch_eq_lost_iff ..).1 hb).2 hsignal
  | centered => exact ⟨_, _, .centered hat hb⟩
  | right => exact ⟨_, _, .right hat hb⟩
  | left => exact ⟨_, _, .left hat hb⟩
  | equal => exact ⟨_, _, .equal hat hb⟩

/-- Settles O29: the first two branches by their own writes, the other four as decisions that record. -/
theorem trackDecideTakesItsBranch : Obligations.TrackDecideTakesItsBranch := by
  intro s hok hat s0 lost centered
  have hrow : exec .trackDecide s = exec .tick s := exec_microOp_eq_tick .trackDecide s
  have hbody : exec .tick s = .next (trackDecideBody s.begun) := exec_tick_of_home .trackDecide hok hat
  rw [hrow]
  refine ⟨fun hv => ?_, fun hv hlost => ?_, fun hv hsignal hroom => ?_, fun hv hsignal hfull => ?_⟩
  · have hb : trackBranch s.begun.cfg.toParams s.begun.frameValid s.begun.cap1 s.begun.cap2 = .arrive :=
      (trackBranch_eq_arrive_iff ..).2 hv
    rw [hbody, trackDecideBody, hb]
    rfl
  · have hb : trackBranch s.begun.cfg.toParams s.begun.frameValid s.begun.cap1 s.begun.cap2 = .lost :=
      (trackBranch_eq_lost_iff ..).2 ⟨hv, hlost⟩
    rw [hbody, trackDecideBody, hb]
    rfl
  · have hb := trackBranch_of_signal hv hsignal
    refine ⟨fun hc => ?_, fun hc hgt => ?_, fun hc hlt => ?_, fun hc heq => ?_⟩
    · rw [if_pos hc] at hb
      exact exec_tick_of_records_with_room hok (.centered hat hb) hroom
    · rw [if_neg hc, if_pos hgt] at hb
      exact exec_tick_of_records_with_room hok (.right hat hb) hroom
    · rw [if_neg hc, if_neg (BitVec.not_lt.2 (BitVec.le_of_lt hlt)), if_pos hlt] at hb
      exact exec_tick_of_records_with_room hok (.left hat hb) hroom
    · rw [if_neg hc, if_neg (heq ▸ BitVec.lt_irrefl _), if_neg (heq ▸ BitVec.lt_irrefl _)] at hb
      exact exec_tick_of_records_with_room hok (.equal hat hb) hroom
  · obtain ⟨tag, p, hr⟩ := exists_records_of_signal (s := s.begun) hat hv hsignal
    exact exec_tick_of_records_on_full_log hok hr hfull.ge

/-! ### A dwell tick (42_navigation.md R143, R144) -/

theorem dwellBody_of_last {s : State} (done : State → State) (h : s.dwellCnt = 1) :
    dwellBody done s = .next (done { s with dwellCnt := 0 }) := by
  simp [dwellBody, h]

theorem dwellBody_of_two_le {s : State} (done : State → State) (h : 2 ≤ s.dwellCnt) :
    dwellBody done s = .next { s with dwellCnt := s.dwellCnt - 1 } := by
  rw [dwellBody, if_neg (by omega), if_neg (by omega)]

/-- Without a reserved code, DWELL occurs only in the phases that dwell (10_state.md R41, 30_encoding.md R78). -/
theorem State.CodesOk.dwells {s : State} (h : s.CodesOk) (hsub : s.sub = Sub.dwell.code) :
    s.phase = Phase.searching.code ∨ s.phase = Phase.tracking.code ∨ s.phase = Phase.returning.code := by
  obtain ⟨m, hphase, hm⟩ := h.exists_home
  have hdwell : m.home.2 = .dwell := Sub.code_inj.1 (hm.symm.trans hsub)
  cases m with
  | searchDwell | searchCheck => exact .inl hphase
  | dwellTickTracking => exact .inr (.inl hphase)
  | dwellTickReturning => exact .inr (.inr hphase)
  | _ => simp [MicroOp.home] at hdwell

/-- The state `k` ticks into a dwell that goes on (42_navigation.md R143). -/
def dwellLowered (k : Nat) (s : State) : State := { s with dwellCnt := s.dwellCnt - k, dispEvt := 0 }

/-- A tick of a dwell that goes on is the same in every phase. -/
theorem exec_tick_of_dwell_goes_on {s : State} (hok : s.CodesOk) (hsub : s.sub = Sub.dwell.code)
    (h : 2 ≤ s.dwellCnt) : exec .tick s = .next (dwellLowered 1 s) := by
  obtain hphase | hphase | hphase := hok.dwells hsub
  · exact (exec_tick_of_home .searchDwell hok ⟨hphase, hsub⟩).trans (dwellBody_of_two_le _ h)
  · exact (exec_tick_of_home .dwellTickTracking hok ⟨hphase, hsub⟩).trans (dwellBody_of_two_le _ h)
  · exact (exec_tick_of_home .dwellTickReturning hok ⟨hphase, hsub⟩).trans (dwellBody_of_two_le _ h)

/-- The last tick of a dwell in SEARCHING is SEARCH_CHECK. -/
theorem exec_tick_of_dwell_ends_searching {s : State} (hok : s.CodesOk) (hat : s.At .searching .dwell)
    (h : s.dwellCnt = 1) : exec .tick s = .next (searchCheckBody { s with dwellCnt := 0, dispEvt := 0 }) :=
  (exec_tick_of_home .searchCheck hok hat).trans (dwellBody_of_last _ h)

/-- The last tick of a dwell in TRACKING or RETURNING goes to DECIDE. -/
theorem exec_tick_of_dwell_ends {s : State} (hok : s.CodesOk) (hsub : s.sub = Sub.dwell.code)
    (hphase : s.phase = Phase.tracking.code ∨ s.phase = Phase.returning.code) (h : s.dwellCnt = 1) :
    exec .tick s = .next { s with dwellCnt := 0, sub := 0b00, dispEvt := 0 } := by
  obtain hphase | hphase := hphase
  · exact (exec_tick_of_home .dwellTickTracking hok ⟨hphase, hsub⟩).trans (dwellBody_of_last _ h)
  · exact (exec_tick_of_home .dwellTickReturning hok ⟨hphase, hsub⟩).trans (dwellBody_of_last _ h)

/-- A dwell tick of TRACKING or RETURNING, on the way or at the end. -/
theorem exec_tick_of_dwell {s : State} (hok : s.CodesOk) (hsub : s.sub = Sub.dwell.code)
    (hphase : s.phase = Phase.tracking.code ∨ s.phase = Phase.returning.code) (h : 1 ≤ s.dwellCnt) :
    exec .tick s = .next
      { s with dwellCnt := s.dwellCnt - 1, sub := if s.dwellCnt = 1 then 0b00 else s.sub, dispEvt := 0 } := by
  by_cases hlast : s.dwellCnt = 1
  · rw [exec_tick_of_dwell_ends hok hsub hphase hlast, if_pos hlast, hlast]
  · rw [exec_tick_of_dwell_goes_on hok hsub (by omega), if_neg hlast, dwellLowered]

/-- Settles O27: each row is the TICK, and the tick counts or ends the dwell of its phase. -/
theorem dwellTickCountsDown : Obligations.DwellTickCountsDown := by
  intro s hok hsub
  have hrow : ∀ m : MicroOp, exec m.instr s = exec .tick s := fun m => exec_microOp_eq_tick m s
  refine ⟨fun _ h => (hrow .searchDwell).trans (exec_tick_of_dwell_goes_on hok hsub h), fun hphase h => ?_,
    fun hphase h => (hrow .dwellTickTracking).trans (exec_tick_of_dwell hok hsub (.inl hphase) h),
    fun hphase h => (hrow .dwellTickReturning).trans (exec_tick_of_dwell hok hsub (.inr hphase) h)⟩
  have hcheck := exec_tick_of_dwell_ends_searching hok ⟨hphase, hsub⟩ h
  exact ⟨(hrow .searchDwell).trans hcheck, (hrow .searchCheck).trans hcheck⟩

/-- SEARCH_CHECK without a match goes back to DECIDE (42_navigation.md R144). -/
theorem searchCheckBody_of_miss {s : State} (h : ¬(s.cap1 = s.cfg.center ∧ s.cap2 = s.cfg.center)) :
    searchCheckBody s = { s with sub := Sub.decide.code } :=
  if_neg fun hc => h ((centered_iff ..).1 hc)

/-- Settles O28: the last tick of a Searching dwell, with a match and without. -/
theorem searchCheckMatchesCenter : Obligations.SearchCheckMatchesCenter := by
  intro s hok hat hcnt
  have hcheck : exec .searchCheck s = exec .tick s := exec_microOp_eq_tick .searchCheck s
  have hdwell : exec .searchDwell s = exec .tick s := exec_microOp_eq_tick .searchDwell s
  rw [hcheck]
  refine ⟨fun ⟨h1, h2⟩ => exec_tick_of_match hok hat hcnt h1 h2, fun hmiss => ?_, hdwell⟩
  have hbody := searchCheckBody_of_miss (s := { s with dwellCnt := 0, dispEvt := 0 }) hmiss
  exact (exec_tick_of_dwell_ends_searching hok hat hcnt).trans (congrArg _ hbody)

/-! ### RETURN_STEP (42_navigation.md R153) -/

theorem State.logEntry_of_le {s : State} {i : Nat} (hpos : 1 ≤ i) (hle : i ≤ s.cursor) :
    s.logEntry i = s.mem.logRead i := if_pos ⟨hpos, hle⟩

theorem State.logEntry_of_cursor_lt {s : State} {i : Nat} (h : s.cursor < i) : s.logEntry i = none :=
  if_neg (by omega)

theorem returnStepBody_of_zero {s : State} (h : s.ridx = 0) : returnStepBody s = .next (startStop s) := if_pos h

theorem returnStepBody_of_entry {s : State} {t : Tag} (hpos : s.ridx ≠ 0) (ht : s.logEntry s.ridx = some t) :
    returnStepBody s = .next { issueAndHold (inv t) s with ridx := s.ridx - 1 } := by
  rw [returnStepBody, if_neg hpos, ht]

theorem returnStepBody_of_unwritten {s : State} (hpos : s.ridx ≠ 0) (ht : s.logEntry s.ridx = none) :
    returnStepBody s = .fault .unwrittenLogEntry := by
  rw [returnStepBody, if_neg hpos, ht]

/-- Settles O33: the three cases of the replay index. -/
theorem returnStepIssuesTheInverse : Obligations.ReturnStepIssuesTheInverse := by
  intro s hok hat
  have hrow : exec .returnStep s = returnStepBody s.begun :=
    (exec_microOp_eq_tick .returnStep s).trans (exec_tick_of_home .returnStep hok hat)
  rw [hrow]
  refine ⟨returnStepBody_of_zero (s := s.begun), fun t hpos hle ht => ?_, fun habove => ?_⟩
  · have hentry : s.begun.logEntry s.begun.ridx = some t := (State.logEntry_of_le hpos hle).trans ht
    exact returnStepBody_of_entry (Nat.one_le_iff_ne_zero.1 hpos) hentry
  · exact returnStepBody_of_unwritten (s := s.begun) (Nat.ne_zero_of_lt habove) (State.logEntry_of_cursor_lt habove)

end Sys2Proof.Machine
end

section
/-! PROOF. How long a dwell and a half-period of the heartbeat take (42_navigation.md R143, R155): runs of TICKs that
count a counter down, and the tick that ends the count. -/

namespace Sys2Proof.Machine

open Sys2Proof

/-! ### Runs of TICKs -/

/-- A transaction clears the strobes itself, so a TICK does not read those it starts with (60_exceptions.md R243). -/
theorem exec_tick_begun (s : State) : exec .tick s.begun = exec .tick s := rfl

theorem exec_ticks_eq_tickTimes_begun {n : Nat} (s : State) (h : 1 ≤ n) :
    exec (.ticks n) s = tickTimes n s.begun := by
  obtain ⟨n, rfl⟩ := Nat.exists_eq_add_of_le' h
  have hfirst : execTick s.begun = execTick s := exec_tick_begun s
  rw [exec_ticks_eq_tickTimes s h, tickTimes_succ, tickTimes_succ, hfirst]

theorem tickTimes_add_of_next {m : Nat} (n : Nat) {s u : State} (h : tickTimes m s = .next u) :
    tickTimes (m + n) s = tickTimes n u := by
  induction m generalizing s with
  | zero =>
    cases h
    rw [Nat.zero_add]
  | succ m ih =>
    rw [tickTimes_succ] at h
    obtain ⟨v, hv, hrest⟩ := andThen_eq_next h
    rw [Nat.succ_add, tickTimes_succ, hv, andThen_next, ih hrest]

theorem tickTimes_one (s : State) : tickTimes 1 s = exec .tick s := by
  show andThen (execTick s) .next = execTick s
  cases execTick s <;> rfl

/-- A run of TICKs along a sequence of states. -/
theorem tickTimes_of_sequence {f : Nat → State} {n : Nat}
    (h : ∀ k, k < n → exec .tick (f k) = .next (f (k + 1))) : tickTimes n (f 0) = .next (f n) := by
  induction n with
  | zero => rfl
  | succ n ih =>
    have hrun := ih fun k hk => h k (Nat.lt_succ_of_lt hk)
    rw [tickTimes_add_of_next 1 hrun, tickTimes_one, h n n.lt_succ_self]

/-! ### A dwell (42_navigation.md R143) -/

theorem tickTimes_dwellLowered {n : Nat} {s : State} (hok : s.CodesOk) (hsub : s.sub = Sub.dwell.code)
    (h : n < s.dwellCnt) : tickTimes n s.begun = .next (dwellLowered n s) :=
  tickTimes_of_sequence (f := (dwellLowered · s)) fun k hk =>
    exec_tick_of_dwell_goes_on (s := dwellLowered k s) hok hsub (show 2 ≤ s.dwellCnt - k by omega)

/-- Settles O32: the ticks on the way lower the count to 1, and the next one ends the dwell. -/
theorem dwellLastsItsCount : Obligations.DwellLastsItsCount := by
  intro s hok hsub
  refine ⟨fun k hpos hlt => ?_, fun hphase hpos => ?_⟩
  · rw [exec_ticks_eq_tickTimes_begun s hpos]
    exact tickTimes_dwellLowered hok hsub hlt
  · obtain ⟨n, hn⟩ := Nat.exists_eq_add_of_le' hpos
    have hrun : tickTimes n s.begun = .next (dwellLowered n s) := tickTimes_dwellLowered hok hsub (by omega)
    have hlast : (dwellLowered n s).dwellCnt = 1 := show s.dwellCnt - n = 1 by omega
    rw [exec_ticks_eq_tickTimes_begun s hpos, hn, tickTimes_add_of_next 1 hrun, tickTimes_one]
    exact exec_tick_of_dwell_ends (s := dwellLowered n s) hok hsub hphase hlast

/-! ### The heartbeat (42_navigation.md R155) -/

theorem displayBody_of_last {s : State} (h : s.hbCnt = 1) :
    displayBody s = .next { s with hb := !s.hb, hbCnt := s.cfg.hbTicks } := by
  rw [displayBody, if_neg (by omega), if_pos h]

theorem displayBody_of_two_le {s : State} (h : 2 ≤ s.hbCnt) :
    displayBody s = .next { s with hbCnt := s.hbCnt - 1 } := by
  rw [displayBody, if_neg (by omega), if_neg (by omega)]

/-- The state `k` ticks into a half-period of the heartbeat that goes on (42_navigation.md R155). -/
def hbLowered (k : Nat) (s : State) : State := { s with hbCnt := s.hbCnt - k, dispEvt := 0 }

section
variable {s : State} (hok : s.CodesOk) (hat : s.At .displaying .decide)
include hok hat

theorem exec_tick_of_display_toggles (h : s.hbCnt = 1) :
    exec .tick s = .next { s with hb := !s.hb, hbCnt := s.cfg.hbTicks, dispEvt := 0 } :=
  (exec_tick_of_home .displayTick hok hat).trans (displayBody_of_last (s := s.begun) h)

theorem exec_tick_of_display_goes_on (h : 2 ≤ s.hbCnt) : exec .tick s = .next (hbLowered 1 s) :=
  (exec_tick_of_home .displayTick hok hat).trans (displayBody_of_two_le (s := s.begun) h)

theorem tickTimes_hbLowered {n : Nat} (h : n < s.hbCnt) : tickTimes n s.begun = .next (hbLowered n s) :=
  tickTimes_of_sequence (f := (hbLowered · s)) fun k hk =>
    exec_tick_of_display_goes_on (s := hbLowered k s) hok hat (show 2 ≤ s.hbCnt - k by omega)

/-- A half-period from a fresh count toggles the heartbeat, and the count is fresh again. -/
theorem tickTimes_half_period (hfresh : s.hbCnt = s.cfg.hbTicks) :
    tickTimes s.cfg.hbTicks s.begun = .next { s with hb := !s.hb, dispEvt := 0 } := by
  obtain ⟨-, -, hpos⟩ := s.cfg.one_le
  obtain ⟨n, hn⟩ := Nat.exists_eq_add_of_le' hpos
  have hrun : tickTimes n s.begun = .next (hbLowered n s) := tickTimes_hbLowered hok hat (by omega)
  have hlast : (hbLowered n s).hbCnt = 1 := show s.hbCnt - n = 1 by omega
  rw [hn, tickTimes_add_of_next 1 hrun, tickTimes_one,
    exec_tick_of_display_toggles (s := hbLowered n s) hok hat hlast]
  simp [hbLowered, hfresh]

end

/-- Settles O35: a single tick by its count, and a period as two half-periods. -/
theorem heartbeatTogglesEveryHbTicks : Obligations.HeartbeatTogglesEveryHbTicks := by
  intro s hok hat
  have hrow : exec .displayTick s = exec .tick s := exec_microOp_eq_tick .displayTick s
  obtain ⟨-, -, hpos⟩ := s.cfg.one_le
  refine ⟨fun h => hrow.trans (exec_tick_of_display_toggles hok hat h),
    fun h => hrow.trans (exec_tick_of_display_goes_on hok hat h), fun hfresh => ⟨fun k hk hlt => ?_, ?_, ?_⟩⟩
  · rw [exec_ticks_eq_tickTimes_begun s hk, tickTimes_hbLowered hok hat (hfresh ▸ hlt), hbLowered, hfresh]
  · rw [exec_ticks_eq_tickTimes_begun s hpos, tickTimes_half_period hok hat hfresh]
  · have hfirst := tickTimes_half_period hok hat hfresh
    have hsecond := tickTimes_half_period (s := { s with hb := !s.hb, dispEvt := 0 }) hok hat hfresh
    rw [exec_ticks_eq_tickTimes_begun s (by omega), Nat.two_mul, tickTimes_add_of_next _ hfirst]
    rwa [Bool.not_not] at hsecond

end Sys2Proof.Machine
end

section
/-! PROOF. The phase graph (42_navigation.md R140) and its last phase, HALTED (R156): which effects of a step change the
phase, and that none but RST leaves HALTED. -/

namespace Sys2Proof.Machine

open Sys2Proof

/-! ### HALTED (42_navigation.md R156) -/

/-- Without a reserved code, HALTED is at DECIDE. -/
theorem State.CodesOk.at_halted {s : State} (h : s.CodesOk) (hphase : s.phase = Phase.halted.code) :
    s.At .halted .decide := by
  obtain ⟨m, hm, hsub⟩ := h.exists_home
  have hhome : m.home.1 = .halted := Phase.code_inj.1 (hm.symm.trans hphase)
  cases m with
  | haltTick => exact ⟨hphase, hsub⟩
  | _ => simp [MicroOp.home] at hhome

theorem producersEnabled_of_halted {s : State} (h : s.phase = Phase.halted.code) : s.producersEnabled = false :=
  s.producersEnabled_eq_false_iff.2 fun hon => hon.2 h

/-- In HALTED a TICK does nothing: every other effect has its home in another phase. -/
theorem TickEffect.eq_of_halted {s t : State} (he : TickEffect s t) (h : s.phase = Phase.halted.code) : t = s := by
  have elsewhere : ∀ {ph : Phase}, s.phase = ph.code → ph = .halted :=
    fun hph => Phase.code_inj.1 (hph.symm.trans h)
  cases he with
  | rests => rfl
  | records hr | overflows hr => obtain hph | hph := hr.phase_eq <;> cases elsewhere hph
  | dwells hph hat | dwellEnds hph hat | ramps hph hat =>
    cases elsewhere hat.1
    exact absurd hph (by decide)
  | spins hat | checkMatches hat | arrives hat | loses hat | rampEndsTracking hat | rampEndsArrived hat
  | rampEndsReturning hat | stops hat | replays hat | toggles hat | counts hat => cases elsewhere hat.1

/-- In HALTED an RXB does nothing: every other effect needs the producers. -/
theorem RxEffect.eq_of_halted {b : Byte} {s t : State} (he : RxEffect b s t) (h : s.phase = Phase.halted.code) :
    t = s := by
  cases he with
  | disabled => rfl
  | starts hon | ignoresIdle hon | accepts hon | rejects hon | collects hon | overflows hon | ignoresAccepted hon =>
    exact absurd h hon.2

/-- A step from HALTED is an RST, or leaves phase and fatal code. -/
theorem StepEffect.of_halted {s t : State} (he : StepEffect s t) (h : s.phase = Phase.halted.code) :
    s.Next .rst ∨ (t.phase = Phase.halted.code ∧ t.fatalCode = s.fatalCode) := by
  cases he with
  | idles | ignoresCapture => exact .inr ⟨h, rfl⟩
  | captures _ _ hon => exact absurd h hon.2
  | receives _ _ hrx =>
    cases hrx.eq_of_halted h
    exact .inr ⟨h, rfl⟩
  | ticks _ _ htick =>
    cases htick.eq_of_halted h
    exact .inr ⟨h, rfl⟩
  | resets hnext => exact .inl hnext

/-- Settles O36: HALT_TICK has no effect and the producers are disabled, so no transaction but RST writes anything. -/
theorem haltedIsLeftOnlyByReset : Obligations.HaltedIsLeftOnlyByReset := by
  refine ⟨fun s r v b hok h => ?_, fun s t h hstep => (stepEffect_of_step hstep).of_halted h⟩
  have htick : exec .tick s = .next s.begun := exec_tick_of_home .haltTick hok (hok.at_halted h)
  have hoff := producersEnabled_of_halted h
  exact ⟨htick, (exec_microOp_eq_tick .haltTick s).trans htick, exec_cap_of_disabled r v hok hoff,
    exec_rxb_of_disabled b hok hoff⟩

/-! ### The edges of the graph (42_navigation.md R140) -/

/-- A TICK keeps the phase or takes one of the edges R140 gives to a micro-operation. -/
theorem TickEffect.phase_cases {s t : State} (he : TickEffect s t) :
    t.phase = s.phase ∨
    (s.At .searching .dwell ∧ s.dwellCnt = 1 ∧ s.cap1 = s.cfg.center ∧ s.cap2 = s.cfg.center ∧
      t.phase = Phase.tracking.code) ∨
    (s.At .tracking .decide ∧ s.frameValid = false ∧ s.cap1 = s.cfg.lost1 ∧ s.cap2 ≤ s.cfg.lost2Max ∧
      t.phase = Phase.searching.code) ∨
    (s.At .tracking .decide ∧ s.frameValid = true ∧ t.phase = Phase.arrived.code) ∨
    (s.At .arrived .ramp ∧ s.pwrL.toNat ≤ 1 ∧ s.pwrR.toNat ≤ 1 ∧ t.phase = Phase.returning.code) ∨
    (s.At .returning .ramp ∧ s.pwrL.toNat ≤ 1 ∧ s.pwrR.toNat ≤ 1 ∧ t.phase = Phase.displaying.code) ∨
    (s.phase ≠ Phase.halted.code ∧ t.phase = Phase.halted.code ∧ t.fatalCode = 1) := by
  cases he with
  | checkMatches hat hcnt h1 h2 => exact .inr (.inl ⟨hat, hcnt, h1, h2, rfl⟩)
  | loses hat hb =>
    obtain ⟨hv, h1, h2⟩ := (trackBranch_eq_lost_iff ..).1 hb
    exact .inr (.inr (.inl ⟨hat, hv, h1, h2, rfl⟩))
  | arrives hat hv => exact .inr (.inr (.inr (.inl ⟨hat, hv, rfl⟩)))
  | rampEndsArrived hat hL hR =>
    exact .inr (.inr (.inr (.inr (.inl ⟨hat, (satDec_eq_zero_iff _).1 hL, (satDec_eq_zero_iff _).1 hR, rfl⟩))))
  | rampEndsReturning hat hL hR =>
    exact .inr (.inr (.inr (.inr (.inr (.inl
      ⟨hat, (satDec_eq_zero_iff _).1 hL, (satDec_eq_zero_iff _).1 hR, rfl⟩)))))
  | overflows hr =>
    have hrun : s.phase ≠ Phase.halted.code := by
      obtain hph | hph := hr.phase_eq <;> simp [hph, Phase.code_inj]
    exact .inr (.inr (.inr (.inr (.inr (.inr ⟨hrun, rfl, rfl⟩)))))
  | rampEndsTracking hat => exact .inl hat.1.symm
  | _ => exact .inl rfl

/-- An RXB keeps the phase or enters HALTED by the overflow of the frame. -/
theorem RxEffect.phase_cases {b : Byte} {s t : State} (he : RxEffect b s t) :
    t.phase = s.phase ∨ (s.phase ≠ Phase.halted.code ∧ t.phase = Phase.halted.code ∧ t.fatalCode = 2) := by
  cases he with
  | overflows hon => exact .inr ⟨hon.2, rfl, rfl⟩
  | _ => exact .inl rfl

/-- Settles O37: an effect that changes the phase is an RST, an edge of a TICK, or the overflow of an RXB. -/
theorem phaseChangesFollowTheGraph : Obligations.PhaseChangesFollowTheGraph := by
  intro s t h hne
  cases stepEffect_of_step h with
  | idles | ignoresCapture => exact absurd rfl hne
  | captures => exact absurd (State.writeCapture_phase ..) hne
  | resets hnext => exact .inl hnext
  | @receives b _ hnext _ he =>
    obtain heq | ⟨hrun, hhalt, hcode⟩ := he.phase_cases
    · exact absurd heq hne
    · exact .inr (.inr (.inr (.inr (.inr (.inr ⟨hrun, hhalt, .inr ⟨⟨b, hnext⟩, hcode⟩⟩)))))
  | ticks hnext _ he =>
    refine .inr ?_
    obtain heq | hmatch | hlost | harrive | hreturn | hdisplay | ⟨hrun, hhalt, hcode⟩ := he.phase_cases
    · exact absurd heq hne
    · exact .inl ⟨hnext, hmatch⟩
    · exact .inr (.inl ⟨hnext, hlost⟩)
    · exact .inr (.inr (.inl ⟨hnext, harrive⟩))
    · exact .inr (.inr (.inr (.inl ⟨hnext, hreturn⟩)))
    · exact .inr (.inr (.inr (.inr (.inl ⟨hnext, hdisplay⟩))))
    · exact .inr (.inr (.inr (.inr (.inr ⟨hrun, hhalt, .inl ⟨hnext, hcode⟩⟩))))

end Sys2Proof.Machine
end

section
/-! PROOF. The path log (43_pathlog.md): APPEND of a record, the inverse table with its left inverse, and the replay as
one RETURN_STEP and its dwell for each record, from the last one down. -/

namespace Sys2Proof.Machine

open Sys2Proof

/-! ### APPEND (43_pathlog.md R180) -/

/-- Each row of format TAG is APPEND of its own record (log entry 5). -/
theorem exec_tag (t : Tag) (s : State) : exec t.instr s = .next (appendThen t id s) := by
  cases t <;> rfl

theorem fatalEntry_eq_halted (c : FatalCode) (s : State) : fatalEntry c s = halted c (s.dispEvt ||| 0b100) s := rfl

/-- Settles O40: APPEND on a log with room and on a full one. -/
theorem recordsAreAppended : Obligations.RecordsAreAppended := by
  intro t s
  refine ⟨fun hroom => ⟨s.recorded t, appended_recorded t s, ?_⟩, fun hfull => ⟨?_, rfl⟩⟩
  · rw [exec_tag, appendThen_of_room t id hroom, id]
  · rw [exec_tag, appendThen_of_full t id hfull.ge, fatalEntry_eq_halted]

/-! ### The inverse table (43_pathlog.md R181, R186) -/

/-- Settles O42: the table entry by entry, and the MULT column of the default ROM at the primitives it names. -/
theorem inverseTable : Obligations.InverseTable := by
  refine ⟨rfl, rfl, rfl, rfl, rfl, rfl, rfl, rfl, fun c hrom => ?_⟩
  simp [dwellMult, hrom, inv, romRow, defaultRom]

theorem rev_inv (t : Tag) : rev (inv t) = some t := by cases t <;> rfl

theorem inv_injective : Function.Injective inv := fun a b h =>
  Option.some.inj ((rev_inv a).symm.trans ((congrArg rev h).trans (rev_inv b)))

theorem mapM_rev_map_inv (l : List Tag) : (l.map inv).mapM rev = some l := by
  induction l with
  | nil => rfl
  | cons t l ih => simp [rev_inv, ih]

/-- Settles O43: INV has the left inverse REV, tag by tag and so along a list. -/
theorem inversionIsUndone : Obligations.InversionIsUndone := by
  refine ⟨fun _ _ h => inv_injective h, fun l => ?_⟩
  rw [List.map_reverse, List.reverse_reverse, mapM_rev_map_inv]

/-! ### Runs of TICKs keep the invariant -/

theorem inv_of_exec_tick {s t : State} (h : s.Inv) (htick : exec .tick s = .next t) : t.Inv := by
  obtain ⟨-, hbody⟩ := transaction_eq_next htick
  have hbegun : s.begun.Inv := h
  exact (tickEffect_of_tickBody hbody).keeps_inv hbegun

theorem inv_of_tickTimes {n : Nat} {s t : State} (h : s.Inv) (hrun : tickTimes n s = .next t) : t.Inv := by
  induction n generalizing s with
  | zero => cases hrun; exact h
  | succ n ih =>
    obtain ⟨u, hu, hrest⟩ := andThen_eq_next hrun
    exact ih (inv_of_exec_tick h hu) hrest

/-! ### The replay (43_pathlog.md R183, R185) -/

/-- `u` is `s` at the RETURN_STEP after the replay of its last `j` records: the index is lowered by `j`, and nothing
else differs but what the next primitive drives anyway (40_actuation.md R106, R108). -/
structure Replayed (s : State) (j : Nat) (u : State) : Prop where
  decides : u.At .returning .decide
  driven_eq : ∀ p, driven p u = driven p { s with ridx := s.ridx - j, dispEvt := 0 }

section
variable {s u : State} {j : Nat}

theorem replayed_begun (hat : s.At .returning .decide) : Replayed s 0 s.begun := ⟨hat, fun _ => rfl⟩

theorem Replayed.ridx_eq (h : Replayed s j u) : u.ridx = s.ridx - j :=
  (congrArg State.ridx (h.driven_eq .spinLeft) :)

theorem Replayed.cursor_eq (h : Replayed s j u) : u.cursor = s.cursor :=
  (congrArg State.cursor (h.driven_eq .spinLeft) :)

theorem Replayed.mem_eq (h : Replayed s j u) : u.mem = s.mem :=
  (congrArg State.mem (h.driven_eq .spinLeft) :)

/-- `s` after `j` records of the replay and the RETURN_STEP that issues the inverse of the next one, `t`
(42_navigation.md R153). -/
def replayIssued (s : State) (j : Nat) (t : Tag) : State :=
  { driven (inv t) s with ridx := s.ridx - j - 1, dispEvt := 0 }

/-- Every record that is left to replay is in the log (20_memory.md R52). -/
theorem State.Inv.exists_replay_entry (h : s.Inv) (hj : j < s.ridx) : ∃ t, s.mem.logRead (s.ridx - j) = some t := by
  obtain ⟨-, ⟨-, hridx, -⟩, -⟩ := id h
  obtain ⟨t, ht⟩ := h.logEntry_eq_some (i := s.ridx - j) (by omega) (by omega)
  exact ⟨t, by rwa [State.logEntry_of_le (by omega) (by omega)] at ht⟩

/-- The RETURN_STEP after `j` records issues the inverse of the next one. -/
theorem Replayed.exec_tick_of_entry (hu : Replayed s j u) (h : u.Inv) (hj : j < s.ridx) {t : Tag}
    (ht : s.mem.logRead (s.ridx - j) = some t) : exec .tick u = .next (replayIssued s j t) := by
  obtain ⟨hok, ⟨-, hle, -⟩, -⟩ := h
  obtain ⟨-, hissue, -⟩ := returnStepIssuesTheInverse u hok hu.decides
  have hentry : u.mem.logRead u.ridx = some t := by rw [hu.mem_eq, hu.ridx_eq, ht]
  have hpos : 1 ≤ u.ridx := by rw [hu.ridx_eq]; omega
  rw [← exec_microOp_eq_tick .returnStep u]
  refine (hissue t hpos hle hentry).trans ?_
  rw [hu.driven_eq, hu.ridx_eq]
  rfl

/-- The RETURN_STEP after the last record starts the final Stop. -/
theorem Replayed.exec_tick_of_end (hu : Replayed s j u) (hok : u.CodesOk) (hj : s.ridx ≤ j) :
    exec .tick u = .next { u with prim := 0x0, sub := 0b10, dispEvt := 0 } := by
  obtain ⟨hstop, -, -⟩ := returnStepIssuesTheInverse u hok hu.decides
  rw [← exec_microOp_eq_tick .returnStep u]
  exact hstop (hu.ridx_eq.trans (Nat.sub_eq_zero_of_le hj))

/-- The dwell of a record goes back to the next RETURN_STEP. -/
theorem tickTimes_replayIssued {t : Tag} (hphase : s.phase = Phase.returning.code)
    (hok : (replayIssued s j t).CodesOk) :
    ∃ u, tickTimes (dwellTicks s.cfg.toParams (inv t)) (replayIssued s j t) = .next u ∧ Replayed s (j + 1) u := by
  obtain ⟨hpos, -⟩ := s.cfg.dwellTicks_bounds (inv t)
  obtain ⟨-, hends⟩ := dwellLastsItsCount (replayIssued s j t) hok rfl
  exact ⟨_, (exec_ticks_eq_tickTimes _ hpos).symm.trans (hends (.inr hphase) hpos), ⟨hphase, rfl⟩, fun _ => rfl⟩

theorem replayTicks_succ_of_entry {t : Tag} (ht : s.mem.logRead (s.ridx - j) = some t) :
    replayTicks s (j + 1) = replayTicks s j + 1 + dwellTicks s.cfg.toParams (inv t) := by
  simp [replayTicks, ht, dwellTicks]

/-- The replay of the last `j` records, each a RETURN_STEP and its dwell. -/
theorem tickTimes_replayTicks (h : s.Inv) (hat : s.At .returning .decide) (hj : j ≤ s.ridx) :
    ∃ u, tickTimes (replayTicks s j) s.begun = .next u ∧ u.Inv ∧ Replayed s j u := by
  have hbegun : s.begun.Inv := h
  induction j with
  | zero => exact ⟨s.begun, rfl, hbegun, replayed_begun hat⟩
  | succ j ih =>
    obtain ⟨u, hrun, hinv, hu⟩ := ih (Nat.le_of_succ_le hj)
    obtain ⟨t, ht⟩ := h.exists_replay_entry hj
    have hissue := hu.exec_tick_of_entry hinv hj ht
    have hissued : (replayIssued s j t).Inv := inv_of_exec_tick hinv hissue
    obtain ⟨v, hdwell, hv⟩ := tickTimes_replayIssued hat.1 hissued.1
    refine ⟨v, ?_, inv_of_tickTimes hissued hdwell, hv⟩
    rw [replayTicks_succ_of_entry ht, Nat.add_assoc, tickTimes_add_of_next _ hrun,
      tickTimes_add_of_next _ ((tickTimes_one u).trans hissue), hdwell]

/-- The tick after the replay of `j` records is that of the state they lead to. -/
theorem exec_ticks_replayTicks_succ (hrun : tickTimes (replayTicks s j) s.begun = .next u) :
    exec (.ticks (replayTicks s j + 1)) s = exec .tick u := by
  rw [exec_ticks_eq_tickTimes_begun s (Nat.le_add_left ..), tickTimes_add_of_next 1 hrun, tickTimes_one]

end

/-- Settles O34: after the dwells of `j` records the next tick issues the inverse of record `j`, and after those of all
records it starts the Stop. -/
theorem replayIsReversedInverses : Obligations.ReplayIsReversedInverses := by
  intro s h hat
  constructor
  · intro j hj
    obtain ⟨u, hrun, hinv, hu⟩ := tickTimes_replayTicks h hat hj.le
    obtain ⟨t, ht⟩ := h.exists_replay_entry hj
    exact ⟨t, ht, (exec_ticks_replayTicks_succ hrun).trans (hu.exec_tick_of_entry hinv hj ht)⟩
  · obtain ⟨u, hrun, hinv, hu⟩ := tickTimes_replayTicks h hat le_rfl
    have hstop := hu.exec_tick_of_end hinv.1 le_rfl
    exact ⟨_, (exec_ticks_replayTicks_succ hrun).trans hstop, ⟨hu.decides.1, rfl⟩, rfl,
      hu.ridx_eq.trans (Nat.sub_self _), hu.cursor_eq, hu.mem_eq⟩

end Sys2Proof.Machine
end

section
/-! PROOF. The steps of the frame assembler (44_frame.md R200 to R206): which one an RXB selects, and what START,
COLLECT and the overflow write. -/

namespace Sys2Proof.Machine

open Sys2Proof

/-! ### The case table of R200 -/

theorem rxSel_idle (b : Byte) (full : Bool) :
    rxSel FaState.idle.code b full = if b = stx then some .start else some .ignoreIdle := rfl

theorem rxSel_collecting (b : Byte) (full : Bool) :
    rxSel FaState.collecting.code b full =
      if b = etx then some .endEvaluate else if full then some .overflow else some .collect := rfl

theorem rxSel_accepted (b : Byte) (full : Bool) : rxSel FaState.accepted.code b full = some .ignoreAccepted := rfl

theorem State.frameFull_of_lt {s : State} (h : s.flen < s.cfg.fcap) : s.frameFull = false := by
  simp [State.frameFull, h]

theorem State.frameFull_of_not_lt {s : State} (h : ¬s.flen < s.cfg.fcap) : s.frameFull = true := by
  simp [State.frameFull, h]

/-- The row of an assembler step is the RXB of its byte, whichever step the state selects. -/
theorem exec_rxOp_eq_rxb (op : RxOp) (b : Byte) (s : State) : exec (op.instr b) s = exec (.rxb (rowByte op b)) s := by
  have hrow : exec (op.instr b) s = rxRow op (rowByte op b) s := by cases op <;> rfl
  rw [hrow, rxRow_eq_rxb]
  rfl

section
variable {s : State} {b : Byte}

/-- The step that is selected runs, as the RXB and as its own row. -/
theorem receives_of_rxSel {op : RxOp} (hok : s.CodesOk) (hon : s.Enabled) (hb : rowByte op b = b)
    (hsel : rxSel s.faState b s.frameFull = some op) : Receives op b s := by
  have hrxb : exec (.rxb b) s = .next (rxOpBody op b s.begun) :=
    exec_rxb_of_rxSel hok (s.producersEnabled_iff.2 hon) hsel
  exact ⟨hrxb, by rw [exec_rxOp_eq_rxb, hb]; exact hrxb⟩

theorem receives_start (hok : s.CodesOk) (hon : s.Enabled) (hfa : s.faState = FaState.idle.code) :
    Receives .start stx s :=
  receives_of_rxSel hok hon rfl (by rw [hfa, rxSel_idle, if_pos rfl])

theorem receives_ignoreIdle (hok : s.CodesOk) (hon : s.Enabled) (hfa : s.faState = FaState.idle.code)
    (hb : b ≠ stx) : Receives .ignoreIdle b s :=
  receives_of_rxSel hok hon rfl (by rw [hfa, rxSel_idle, if_neg hb])

theorem receives_endEvaluate (hok : s.CodesOk) (hon : s.Enabled) (hfa : s.faState = FaState.collecting.code) :
    Receives .endEvaluate etx s :=
  receives_of_rxSel hok hon rfl (by rw [hfa, rxSel_collecting, if_pos rfl])

theorem receives_collect (hok : s.CodesOk) (hon : s.Enabled) (hfa : s.faState = FaState.collecting.code)
    (hb : b ≠ etx) (hroom : s.flen < s.cfg.fcap) : Receives .collect b s :=
  receives_of_rxSel hok hon rfl (by simp [hfa, rxSel_collecting, hb, State.frameFull_of_lt hroom])

theorem receives_overflow (hok : s.CodesOk) (hon : s.Enabled) (hfa : s.faState = FaState.collecting.code)
    (hb : b ≠ etx) (hfull : ¬s.flen < s.cfg.fcap) : Receives .overflow b s :=
  receives_of_rxSel hok hon rfl (by simp [hfa, rxSel_collecting, hb, State.frameFull_of_not_lt hfull])

theorem receives_ignoreAccepted (hok : s.CodesOk) (hon : s.Enabled) (hfa : s.faState = FaState.accepted.code) :
    Receives .ignoreAccepted b s :=
  receives_of_rxSel hok hon rfl (by rw [hfa, rxSel_accepted])

end

/-- Settles O9, row by row of R200's case table. -/
theorem rxbRunsSelectedStep : Obligations.RxbRunsSelectedStep := by
  intro s b hok
  refine ⟨fun hoff => exec_rxb_of_disabled b hok (s.producersEnabled_eq_false_iff.2 hoff), fun hon => ?_, ?_⟩
  · refine ⟨?start, receives_ignoreIdle hok hon, ?endEvaluate, receives_collect hok hon, receives_overflow hok hon,
      receives_ignoreAccepted hok hon⟩
    case start =>
      rintro hfa rfl
      exact receives_start hok hon hfa
    case endEvaluate =>
      rintro hfa rfl
      exact receives_endEvaluate hok hon hfa
  · obtain ⟨t, ht, -⟩ := exec_rxb_completes b hok
    exact ⟨t, ht⟩

/-! ### What the steps write (44_frame.md R201 to R206) -/

/-- Settles O14: START clears the whole buffer and never touches the log. -/
theorem startClearsTheBuffer : Obligations.StartClearsTheBuffer := by
  intro s hok hon hfa
  obtain ⟨hrxb, hrow⟩ := receives_start hok hon hfa
  exact ⟨_, hrow, hrxb, rfl, Memory.fbufRead_fbufClear _, Memory.logRead_fbufClear _⟩

/-- Settles O15: the selected step is one of the two that write nothing. -/
theorem ignoredBytesChangeNothing : Obligations.IgnoredBytesChangeNothing :=
  fun _ _ hok hon => ⟨fun hfa hb => (receives_ignoreIdle hok hon hfa hb).symm,
    fun hfa => (receives_ignoreAccepted hok hon hfa).symm⟩

/-- Settles O16: the write of COLLECT is one write of the frame buffer. -/
theorem collectStoresOneByte : Obligations.CollectStoresOneByte := by
  intro s b hok hwf hon hfa hb hroom
  obtain ⟨hrxb, hrow⟩ := receives_collect hok hon hfa hb hroom
  obtain ⟨-, hrising, -⟩ := hwf
  exact ⟨_, hrow, hrxb, rfl, Memory.fbufRead_fbufWrite_same _ _ _ hrising,
    fun k hk => Memory.fbufRead_fbufWrite_other _ _ _ _ hk, fun _ => Memory.logRead_fbufWrite ..⟩

/-- A byte of the frame that finds the buffer full takes the fatal entry with code 2 and strobes FATAL alone. -/
theorem exec_rxb_of_overflow {s : State} {b : Byte} (hok : s.CodesOk) (hon : s.Enabled)
    (hfa : s.faState = FaState.collecting.code) (hb : b ≠ etx) (hfull : ¬s.flen < s.cfg.fcap) :
    exec (.rxb b) s = .next (halted .frameOverflow 0b100 s) :=
  (receives_overflow hok hon hfa hb hfull).1.trans (congrArg _ (fatalEntry_begun ..))

/-- Settles O17: a full buffer selects the overflow, whose fatal entry leaves the frame buffer alone. -/
theorem frameOverflowHalts : Obligations.FrameOverflowHalts := by
  intro s b hok hon hfa hb hfull
  have hrxb := exec_rxb_of_overflow hok hon hfa hb hfull.not_lt
  exact ⟨(exec_rxOp_eq_rxb .overflow b s).trans hrxb, hrxb, rfl⟩

end Sys2Proof.Machine
end

section
/-! PROOF. The verdict on a collected frame (44_frame.md R207 to R210), and `frame_valid`, which only an acceptance
raises and only RST lowers (R206, R211). -/

namespace Sys2Proof.Machine

open Sys2Proof

/-! ### Hex characters and pairs (44_frame.md R208, R209) -/

theorem hexDigitValue_lt {c : Byte} (h : HexDigit c) : hexDigitValue c < 16 := by
  unfold hexDigitValue
  split <;> omega

theorem hexVal_eq_some_iff {c : Byte} {x : BitVec 4} :
    hexVal c = some x ↔ HexDigit c ∧ x.toNat = hexDigitValue c := by
  unfold hexVal
  split_ifs with hdigit hletter
  · have hval : hexDigitValue c = c.toNat - 0x30 := if_pos hdigit.2
    simp only [Option.some.injEq, hval]
    bv_omega
  · have hval : hexDigitValue c = c.toNat - 0x37 := if_neg (by omega)
    simp only [Option.some.injEq, hval]
    bv_omega
  · simp [HexDigit, hdigit, hletter]

theorem toNat_append_nibbles (a b : BitVec 4) : (a ++ b : Byte).toNat = 16 * a.toNat + b.toNat := by
  rw [BitVec.toNat_append, ← Nat.shiftLeft_add_eq_or_of_lt b.isLt, Nat.shiftLeft_eq, Nat.mul_comm]

theorem pairValue_lt {h l : Byte} (hh : HexDigit h) (hl : HexDigit l) : pairValue h l < 256 := by
  have := hexDigitValue_lt hh
  have := hexDigitValue_lt hl
  unfold pairValue
  omega

/-- The byte whose value is that of a pair of hex digits (44_frame.md R209). -/
def pairByte (h l : Byte) : Byte := BitVec.ofNat 8 (pairValue h l)

theorem toNat_pairByte {h l : Byte} (hh : HexDigit h) (hl : HexDigit l) : (pairByte h l).toNat = pairValue h l :=
  Nat.mod_eq_of_lt (pairValue_lt hh hl)

theorem hexPair_of_hexDigits {h l : Byte} (hh : HexDigit h) (hl : HexDigit l) : hexPair h l = some (pairByte h l) := by
  have nibble {c : Byte} (hc : HexDigit c) : hexVal c = some (BitVec.ofNat 4 (hexDigitValue c)) :=
    hexVal_eq_some_iff.2 ⟨hc, Nat.mod_eq_of_lt (hexDigitValue_lt hc)⟩
  simp only [hexPair, nibble hh, nibble hl, Option.some.injEq]
  apply BitVec.eq_of_toNat_eq
  rw [toNat_append_nibbles, toNat_pairByte hh hl, pairValue, BitVec.toNat_ofNat, BitVec.toNat_ofNat,
    Nat.mod_eq_of_lt (hexDigitValue_lt hh), Nat.mod_eq_of_lt (hexDigitValue_lt hl)]

theorem hexPair_eq_some_iff {h l p : Byte} : hexPair h l = some p ↔ HexDigit h ∧ HexDigit l ∧ p = pairByte h l := by
  constructor
  · intro hp
    obtain ⟨hh, hl⟩ : HexDigit h ∧ HexDigit l := by
      unfold hexPair at hp
      split at hp
      · next ha hb => exact ⟨(hexVal_eq_some_iff.1 ha).1, (hexVal_eq_some_iff.1 hb).1⟩
      · cases hp
    exact ⟨hh, hl, Option.some.inj (hp.symm.trans (hexPair_of_hexDigits hh hl))⟩
  · rintro ⟨hh, hl, rfl⟩
    exact hexPair_of_hexDigits hh hl

/-! ### EVALUATE's verdict (44_frame.md R207, R210) -/

/-- The byte of pair `j` of the buffer, when its two characters are hex digits (44_frame.md R207). -/
def State.pairByte (s : State) (j : Nat) : Byte :=
  Machine.pairByte (s.mem.fbufRead (2 * j)) (s.mem.fbufRead (2 * j + 1))

theorem State.framePair_eq_some_iff {s : State} {j : Nat} {p : Byte} : s.framePair j = some p ↔
    HexDigit (s.mem.fbufRead (2 * j)) ∧ HexDigit (s.mem.fbufRead (2 * j + 1)) ∧ p = s.pairByte j :=
  hexPair_eq_some_iff

/-- The checksum exists exactly when all twelve characters are hex digits. -/
theorem State.checksum_eq_some_iff {s : State} {x ref : Byte} : s.checksum = some (x, ref) ↔
    (∀ k, k < 12 → HexDigit (s.mem.fbufRead k)) ∧
      x = s.pairByte 0 ^^^ s.pairByte 1 ^^^ s.pairByte 2 ^^^ s.pairByte 3 ^^^ s.pairByte 4 ∧ ref = s.pairByte 5 := by
  constructor
  · intro h
    unfold State.checksum at h
    split at h
    · next h0 h1 h2 h3 h4 h5 =>
      cases h
      obtain ⟨d0, d1, rfl⟩ := State.framePair_eq_some_iff.1 h0
      obtain ⟨d2, d3, rfl⟩ := State.framePair_eq_some_iff.1 h1
      obtain ⟨d4, d5, rfl⟩ := State.framePair_eq_some_iff.1 h2
      obtain ⟨d6, d7, rfl⟩ := State.framePair_eq_some_iff.1 h3
      obtain ⟨d8, d9, rfl⟩ := State.framePair_eq_some_iff.1 h4
      obtain ⟨d10, d11, rfl⟩ := State.framePair_eq_some_iff.1 h5
      refine ⟨fun k hk => ?_, rfl, rfl⟩
      interval_cases k <;> assumption
    · cases h
  · rintro ⟨hhex, rfl, rfl⟩
    have pair (j : Nat) (hj : j < 6) : s.framePair j = some (s.pairByte j) :=
      State.framePair_eq_some_iff.2 ⟨hhex _ (by omega), hhex _ (by omega), rfl⟩
    simp [State.checksum, pair]

/-- The bytes of the pairs match as their values do: XOR commutes with reading a byte as a number. -/
theorem State.pairSum_iff {s : State} (hhex : ∀ k, k < 12 → HexDigit (s.mem.fbufRead k)) :
    s.pairByte 0 ^^^ s.pairByte 1 ^^^ s.pairByte 2 ^^^ s.pairByte 3 ^^^ s.pairByte 4 = s.pairByte 5 ↔
      GoodFrame s.mem.fbufRead := by
  have value (j : Nat) (hj : j < 6) :
      (s.pairByte j).toNat = pairValue (s.mem.fbufRead (2 * j)) (s.mem.fbufRead (2 * j + 1)) :=
    toNat_pairByte (hhex _ (by omega)) (hhex _ (by omega))
  rw [GoodFrame, and_iff_right hhex, ← BitVec.toNat_inj]
  simp [value]

theorem State.frameGood_iff_checksum (s : State) :
    s.frameGood = true ↔ s.flen = 12 ∧ ∃ x, s.checksum = some (x, x) := by
  unfold State.frameGood
  cases h : s.checksum with
  | none => simp
  | some c => obtain ⟨x, ref⟩ := c; simp [eq_comm (a := x) (b := ref)]

/-- The verdict in the words of R207 and R210. -/
theorem State.frameGood_iff (s : State) : s.frameGood = true ↔ s.flen = 12 ∧ GoodFrame s.mem.fbufRead := by
  rw [s.frameGood_iff_checksum, and_congr_right_iff]
  intro _
  constructor
  · rintro ⟨x, hx⟩
    obtain ⟨hhex, hsum, href⟩ := State.checksum_eq_some_iff.1 hx
    exact (State.pairSum_iff hhex).1 (hsum.symm.trans href)
  · intro hgood
    obtain ⟨hhex, -⟩ := id hgood
    exact ⟨_, State.checksum_eq_some_iff.2 ⟨hhex, ((State.pairSum_iff hhex).2 hgood).symm, rfl⟩⟩

/-! ### `frame_valid` and the accepted frame (44_frame.md R206, R211, R214) -/

/-- A step whose word is an RXB has an effect of that RXB. -/
theorem rxEffect_of_step {s t : State} {b : Byte} (hnext : s.Next (.rxb b)) (h : step s = .next t) :
    RxEffect b s.started t := by
  obtain ⟨w, rest, hin, hi⟩ := hnext
  rw [step_of_decodeWord_ok hin hi] at h
  obtain ⟨-, hbody⟩ := transaction_eq_next h
  have hstarted : State.begun { s with input := rest } = s.started := by simp [State.started_eq, State.begun, hin]
  exact hstarted ▸ rxEffect_of_receiveBody hbody

/-- The assembler is the same in `t` as in `s`: its state, its length, its verdict and every byte of its buffer. -/
def SameFrame (s t : State) : Prop :=
  t.faState = s.faState ∧ t.frameValid = s.frameValid ∧ t.flen = s.flen ∧ ∀ k, t.mem.fbufRead k = s.mem.fbufRead k

/-- A TICK only reads the assembler. -/
theorem TickEffect.sameFrame {s t : State} (h : TickEffect s t) : SameFrame s t := by
  cases h <;> exact ⟨rfl, rfl, rfl, fun _ => rfl⟩

/-- In ACCEPTED an RXB does nothing: every other effect has its home in another state of the assembler. -/
theorem RxEffect.eq_of_accepted {b : Byte} {s t : State} (he : RxEffect b s t)
    (h : s.faState = FaState.accepted.code) : t = s := by
  cases he with
  | disabled | ignoresIdle | ignoresAccepted => rfl
  | starts _ hfa | accepts _ hfa | rejects _ hfa | collects _ hfa | overflows _ hfa =>
    exact absurd (hfa.symm.trans h) (by decide)

/-- A step from ACCEPTED is an RST, or leaves the assembler. -/
theorem StepEffect.of_accepted {s t : State} (he : StepEffect s t) (h : s.faState = FaState.accepted.code) :
    s.Next .rst ∨ SameFrame s t := by
  cases he with
  | idles | ignoresCapture => exact .inr ⟨rfl, rfl, rfl, fun _ => rfl⟩
  | @captures r => cases r <;> exact .inr ⟨rfl, rfl, rfl, fun _ => rfl⟩
  | receives _ _ hrx =>
    cases hrx.eq_of_accepted h
    exact .inr ⟨rfl, rfl, rfl, fun _ => rfl⟩
  | ticks _ _ htick => exact .inr htick.sameFrame
  | resets hnext => exact .inl hnext

/-- Settles O24: no effect from ACCEPTED but that of RST writes the assembler, and that of an RXB writes nothing. -/
theorem acceptedFrameIsFrozen : Obligations.AcceptedFrameIsFrozen := by
  intro s t h hstep
  obtain hrst | ⟨hfa, hvalid, hlen, hbuf⟩ := (stepEffect_of_step hstep).of_accepted h
  · exact .inl hrst
  · refine .inr ⟨hfa.trans h, hvalid, hlen, hbuf, fun b hnext => ?_⟩
    rw [(rxEffect_of_step hnext hstep).eq_of_accepted h]
    rfl

/-- An RXB changes `frame_valid` only in the acceptance, which sets it (44_frame.md R211). -/
theorem RxEffect.frameValid_cases {b : Byte} {s t : State} (he : RxEffect b s t) :
    t.frameValid = s.frameValid ∨ (t.frameValid = true ∧ b = etx ∧ s.faState = FaState.collecting.code ∧
      s.frameGood = true ∧ t.faState = FaState.accepted.code) := by
  cases he with
  | accepts _ hfa hb hgood => exact .inr ⟨rfl, hb, hfa, hgood, rfl⟩
  | _ => exact .inl rfl

/-- Settles O25: of the effects of a step, only the acceptance of a good frame and RST write `frame_valid`. -/
theorem frameValidIsOneShot : Obligations.FrameValidIsOneShot := by
  intro s t h hne
  cases stepEffect_of_step h with
  | idles | ignoresCapture => exact absurd rfl hne
  | captures => exact absurd (State.writeCapture_frameValid ..) hne
  | receives hnext _ he =>
    obtain heq | ⟨htrue, rfl, hfa, hgood, hacc⟩ := he.frameValid_cases
    · exact absurd heq hne
    · obtain ⟨hlen, hframe⟩ := (State.frameGood_iff _).1 hgood
      rw [htrue] at hne
      exact .inr ⟨by simpa using hne.symm, hnext, hfa, hlen, hframe, hacc⟩
  | ticks _ _ he =>
    obtain ⟨-, heq, -⟩ := he.sameFrame
    exact absurd heq hne
  | resets hnext => exact .inl ⟨by simpa using hne.symm, hnext⟩

end Sys2Proof.Machine
end

section
/-! PROOF. A whole frame (44_frame.md R200 to R213): START and the bytes after it fill the buffer in arrival order, the
end marker has twelve of them judged, and one byte too many halts the block. -/

namespace Sys2Proof

/-- A frame of twelve characters fits the buffer (00_scope.md R7). -/
theorem Config.twelve_le_fcap (c : Config) : 12 ≤ c.fcap := by
  have h := c.isLegal
  simp only [Params.legal, Bool.and_eq_true, inRange_iff] at h
  omega

end Sys2Proof

namespace Sys2Proof.Machine

open Sys2Proof

/-! ### The buffer of a frame that is being received -/

/-- `m` is `m0` with the bytes `bs` of a frame in its buffer, in arrival order (44_frame.md R201, R204). -/
structure FrameBytes (m0 : Memory) (bs : List Byte) (m : Memory) : Prop where
  canonical : rising m.fbuf
  bytes : ∀ k, k < bs.length → m.fbufRead k = bs.getD k 0
  log : ∀ i, m.logRead i = m0.logRead i

theorem rising_fbufWrite {m : Memory} (k : Nat) (b : Byte) (h : rising m.fbuf) : rising (m.fbufWrite k b).fbuf := by
  unfold Memory.fbufWrite
  split
  · exact rising_dropCell _ _ h
  · exact rising_putCell _ _ _ h

/-- START leaves an empty frame. -/
theorem FrameBytes.cleared (m0 : Memory) : FrameBytes m0 [] m0.fbufClear where
  canonical := .nil
  bytes := fun _ hk => absurd hk (Nat.not_lt_zero _)
  log := m0.logRead_fbufClear

/-- COLLECT adds its byte at the end of the frame. -/
theorem FrameBytes.stored {m0 m : Memory} {bs : List Byte} (h : FrameBytes m0 bs m) (b : Byte) :
    FrameBytes m0 (bs ++ [b]) (m.fbufWrite bs.length b) where
  canonical := rising_fbufWrite _ _ h.canonical
  bytes := by
    intro k hk
    obtain rfl | hlt : k = bs.length ∨ k < bs.length := by
      simp only [List.length_append, List.length_singleton] at hk; omega
    · simp [Memory.fbufRead_fbufWrite_same _ _ _ h.canonical]
    · rw [Memory.fbufRead_fbufWrite_other _ _ _ _ hlt.ne, h.bytes k hlt, List.getD_append _ _ _ _ hlt]
  log := h.log

/-! ### Receiving the bytes of a frame -/

/-- `s` in the middle of a frame of which the bytes `bs` have arrived, with the memories `m`. -/
def midFrame (s : State) (bs : List Byte) (m : Memory) : State :=
  { s with faState := FaState.collecting.code, flen := bs.length, mem := m, dispEvt := 0 }

theorem codesOk_midFrame {s : State} (bs : List Byte) (m : Memory) (h : s.CodesOk) : (midFrame s bs m).CodesOk :=
  h.of_faState .collecting rfl rfl rfl rfl

theorem runList_append {α : Type} (f : α → State → Out) (xs ys : List α) (s : State) :
    runList f (xs ++ ys) s = andThen (runList f xs s) (runList f ys) := by
  induction xs generalizing s with
  | nil => rfl
  | cons x xs ih =>
    rw [List.cons_append, runList_cons, runList_cons]
    cases f x s with
    | next t => exact ih t
    | fault | refused => rfl

/-- One more byte after some that completed. -/
theorem runList_execRxb_concat {bs : List Byte} {b : Byte} {s u : State} (h : runList execRxb bs s = .next u) :
    runList execRxb (bs ++ [b]) s = exec (.rxb b) u := by
  rw [runList_append, h, andThen_next, runList_cons]
  show andThen (exec (.rxb b) u) .next = exec (.rxb b) u
  cases exec (.rxb b) u <;> rfl

section
variable {s : State} {bs : List Byte}

theorem exec_rxb_stx (hok : s.CodesOk) (hon : s.Enabled) (hfa : s.faState = FaState.idle.code) :
    exec (.rxb stx) s = .next (midFrame s [] s.mem.fbufClear) :=
  (receives_start hok hon hfa).1

theorem exec_rxb_midFrame {m : Memory} {b : Byte} (hok : s.CodesOk) (hon : s.Enabled) (hb : b ≠ etx)
    (hroom : bs.length < s.cfg.fcap) :
    exec (.rxb b) (midFrame s bs m) = .next (midFrame s (bs ++ [b]) (m.fbufWrite bs.length b)) := by
  obtain ⟨hrxb, -⟩ := receives_collect (codesOk_midFrame bs m hok) hon rfl hb hroom
  simpa [midFrame, rxOpBody, rxCollectBody] using hrxb

/-- The start marker and as many bytes as fit, none of them the end marker, are a frame in the middle. -/
theorem exists_midFrame (hok : s.CodesOk) (hon : s.Enabled) (hfa : s.faState = FaState.idle.code)
    (hlen : bs.length ≤ s.cfg.fcap) (hbs : ∀ b ∈ bs, b ≠ etx) :
    ∃ m, runList execRxb (stx :: bs) s = .next (midFrame s bs m) ∧ FrameBytes s.mem bs m := by
  induction bs using List.reverseRecOn with
  | nil => exact ⟨_, runList_execRxb_cons (exec_rxb_stx hok hon hfa), .cleared s.mem⟩
  | append_singleton bs b ih =>
    rw [List.length_append, List.length_singleton] at hlen
    obtain ⟨m, hrun, hm⟩ := ih (by omega) fun c hc => hbs c (List.mem_append_left _ hc)
    have hb : b ≠ etx := hbs b (by simp)
    exact ⟨_, (runList_execRxb_concat hrun).trans (exec_rxb_midFrame hok hon hb (by omega)), hm.stored b⟩

end

/-! ### The end of a frame -/

theorem goodFrame_congr {f g : Nat → Byte} (h : ∀ k, k < 12 → f k = g k) : GoodFrame f ↔ GoodFrame g := by
  have hhex : (∀ k, k < 12 → HexDigit (f k)) ↔ ∀ k, k < 12 → HexDigit (g k) :=
    forall₂_congr fun k hk => by rw [h k hk]
  rw [GoodFrame, GoodFrame, hhex]
  simp [h]

/-- Settles O21: the bytes fill the buffer, and the end marker has them judged by `frameGood`. -/
theorem twelveByteFrameIsJudged : Obligations.TwelveByteFrameIsJudged := by
  intro s bs hok hon hfa hlen hbs
  obtain ⟨m, hrun, hm⟩ := exists_midFrame hok hon hfa (hlen.trans_le s.cfg.twelve_le_fcap) fun b hb => (hbs b hb).2
  have hbytes : ∀ k, k < 12 → m.fbufRead k = bs.getD k 0 := fun k hk => hm.bytes k (hlen ▸ hk)
  have hend : exec (.frame bs) s = .next (rxEvaluateBody (midFrame s bs m)) := by
    rw [exec_frame_of_ascii s fun b hb => (hbs b hb).1, runList_execRxb_concat hrun]
    exact (receives_endEvaluate (codesOk_midFrame bs m hok) hon rfl).1
  have hgood : (midFrame s bs m).frameGood = true ↔ GoodFrame fun k => bs.getD k 0 :=
    (State.frameGood_iff _).trans ((and_iff_right hlen).trans (goodFrame_congr hbytes))
  have hstrobe : 0 ||| strobeReject = 0b010 := by decide
  rw [rxEvaluateBody] at hend
  split_ifs at hend with hverdict
  · have hframe := hgood.1 hverdict
    exact ⟨_, hend, rfl, hm.log, hbytes, fun _ => ⟨rfl, hlen, rfl, rfl, fun k hk => hbytes k (by omega)⟩,
      fun hbad => absurd hframe hbad⟩
  · have hbad := fun hframe => hverdict (hgood.2 hframe)
    exact ⟨_, hend, rfl, hm.log, hbytes, fun hframe => absurd hframe hbad, fun _ => ⟨rfl, rfl, rfl, hstrobe⟩⟩

/-- Settles O22: all but the last byte fill the buffer, and the last one overflows it. -/
theorem unterminatedFrameHalts : Obligations.UnterminatedFrameHalts := by
  intro s bs hok hon hfa hlen hbs
  obtain rfl | ⟨front, last, rfl⟩ := List.eq_nil_or_concat' bs
  · cases hlen
  · have hfront : front.length = s.cfg.fcap := by simpa using hlen
    obtain ⟨m, hrun, hm⟩ := exists_midFrame (bs := front) hok hon hfa hfront.le
      fun b hb => (hbs b (List.mem_append_left _ hb)).2
    have hascii : ∀ b ∈ stx :: (front ++ [last]), isAscii b = true :=
      List.forall_mem_cons.2 ⟨by decide, fun b hb => (hbs b hb).1⟩
    have hhalt : exec (.rxs (stx :: (front ++ [last]))) s =
        .next (halted .frameOverflow 0b100 (midFrame s front m)) := by
      rw [exec_rxs_of_ascii s hascii, ← List.cons_append, runList_execRxb_concat hrun]
      exact exec_rxb_of_overflow (codesOk_midFrame front m hok) hon rfl (hbs last (by simp)).2 hfront.not_lt
    have hbytes : ∀ k, k < s.cfg.fcap → m.fbufRead k = (front ++ [last]).getD k 0 := by
      intro k hk
      rw [← hfront] at hk
      rw [hm.bytes k hk, List.getD_append _ _ _ _ hk]
    exact ⟨_, hhalt, rfl, rfl, hfront, rfl, hbytes, rfl, rfl, hm.log⟩

end Sys2Proof.Machine
end

section
/-! PROOF. What a transaction signals (60_exceptions.md R230 to R233, R243): the strobe of each effect of a step, with
the cause and the state after it where the block halts, and the two statements that follow. -/

namespace Sys2Proof.Machine

open Sys2Proof

/-- The transaction entered `ph`: the event that PAYLOAD and FATAL mark, of DISPLAYING and of HALTED (60_exceptions.md
R243). -/
def Enters (ph : Phase) (s t : State) : Prop := s.phase ≠ ph.code ∧ t.phase = ph.code

theorem not_enters_of_eq {ph : Phase} {s t : State} (h : t.phase = s.phase) : ¬Enters ph s t :=
  fun hent => hent.1 (h.symm.trans hent.2)

theorem not_enters_of_ne {ph dest : Phase} {s t : State} (h : t.phase = dest.code) (hne : dest ≠ ph) : ¬Enters ph s t :=
  fun hent => hne (Phase.code_inj.1 (h.symm.trans hent.2))

/-- The event that REJECT marks: the end marker of a frame is not accepted (44_frame.md R212). -/
def Rejects (i : Instr) (s t : State) : Prop :=
  i = .rxb etx ∧ s.Enabled ∧ s.faState = FaState.collecting.code ∧ t.faState = FaState.idle.code

/-- The causes of the fatal entry, each with the transaction it arises in and the code it records (60_exceptions.md
R231). -/
inductive FatalCause (s : State) : Instr → FatalCode → Prop
  | logFull (hfull : s.cfg.cap ≤ s.cursor) : FatalCause s .tick .pathlogOverflow
  | frameFull {b : Byte} (hb : b ≠ etx) (hfa : s.faState = FaState.collecting.code) (hfull : s.cfg.fcap ≤ s.flen) :
      FatalCause s (.rxb b) .frameOverflow

/-- What the transaction `i` from `s` to `t` signals: nothing, or one strobe with the event it marks. -/
inductive Signals (i : Instr) (s t : State) : Prop
  | nothing (hevt : t.dispEvt = 0b000) (hdisplay : ¬Enters .displaying s t) (hhalt : ¬Enters .halted s t)
      (hrej : ¬Rejects i s t)
  | payload (hevt : t.dispEvt = 0b001) (htick : i = .tick) (hent : Enters .displaying s t)
  | reject (hevt : t.dispEvt = 0b010) (hrej : Rejects i s t) (hphase : t.phase = s.phase)
  | fatal {c : FatalCode} (hcause : FatalCause s i c) (hent : Enters .halted s t)
      (ht : t = halted c 0b100 s.wordTaken)

/-- A transaction that emits nothing, keeps the phase and rejects no frame signals nothing. -/
theorem Signals.of_phase_eq {i : Instr} {s t : State} (hevt : t.dispEvt = 0b000) (hphase : t.phase = s.phase)
    (hrej : ¬Rejects i s t) : Signals i s t :=
  .nothing hevt (not_enters_of_eq hphase) (not_enters_of_eq hphase) hrej

/-- A transaction that emits nothing, goes to a phase no strobe marks and is no RXB signals nothing. -/
theorem Signals.of_unmarked_phase {i : Instr} {s t : State} {ph : Phase} (hevt : t.dispEvt = 0b000)
    (hto : t.phase = ph.code) (hunmarked : ph ≠ .displaying ∧ ph ≠ .halted) (hi : i ≠ .rxb etx) : Signals i s t :=
  .nothing hevt (not_enters_of_ne hto hunmarked.1) (not_enters_of_ne hto hunmarked.2) fun hrej => hi hrej.1

/-- A TICK signals the end of the final ramp and the overflow of the log, and nothing else. -/
theorem TickEffect.signals {s t : State} (he : TickEffect s.started t) : Signals .tick s t := by
  cases he with
  | rampEndsReturning hat =>
    have hfrom : s.phase = Phase.returning.code := hat.1
    exact .payload BitVec.zero_or rfl ⟨by simp [hfrom, Phase.code_inj], rfl⟩
  | overflows hr hfull =>
    have hrun : s.phase ≠ Phase.halted.code := by
      obtain hph | hph : s.phase = _ ∨ s.phase = _ := hr.phase_eq <;> simp [hph, Phase.code_inj]
    exact .fatal (.logFull hfull) ⟨hrun, rfl⟩ (fatalEntry_begun .pathlogOverflow s.wordTaken)
  | checkMatches | rampEndsTracking => exact .of_unmarked_phase (ph := .tracking) rfl rfl (by decide) (by simp)
  | loses => exact .of_unmarked_phase (ph := .searching) rfl rfl (by decide) (by simp)
  | arrives => exact .of_unmarked_phase (ph := .arrived) rfl rfl (by decide) (by simp)
  | rampEndsArrived => exact .of_unmarked_phase (ph := .returning) rfl rfl (by decide) (by simp)
  | _ => exact .of_phase_eq rfl rfl fun hrej => by cases hrej.1

/-- An RXB signals a frame it does not accept and the overflow of the buffer, and nothing else. -/
theorem RxEffect.signals {b : Byte} {s t : State} (he : RxEffect b s.started t) : Signals (.rxb b) s t := by
  have quiet {u : State} (hevt : u.dispEvt = 0b000) (hphase : u.phase = s.phase)
      (hrej : b = etx → s.Enabled → s.faState = FaState.collecting.code → u.faState ≠ FaState.idle.code) :
      Signals (.rxb b) s u :=
    .of_phase_eq hevt hphase fun ⟨hi, hon, hfa, hidle⟩ => hrej (by cases hi; rfl) hon hfa hidle
  have elsewhere {fa : FaState} (hfa : s.faState = fa.code) (hne : fa.code ≠ FaState.collecting.code) :
      s.faState ≠ FaState.collecting.code := hfa ▸ hne
  cases he with
  | disabled hoff => exact quiet rfl rfl fun _ hon => absurd hon hoff
  | starts _ hfa | ignoresIdle _ hfa =>
    exact quiet rfl rfl fun _ _ hcol => absurd hcol (elsewhere (fa := .idle) hfa (by decide))
  | ignoresAccepted _ hfa =>
    exact quiet rfl rfl fun _ _ hcol => absurd hcol (elsewhere (fa := .accepted) hfa (by decide))
  | accepts =>
    have hne : FaState.accepted.code ≠ FaState.idle.code := by decide
    exact quiet rfl rfl fun _ _ _ => hne
  | collects _ _ hb => exact quiet rfl rfl fun hetx => absurd hetx hb
  | rejects hon hfa hb => exact .reject BitVec.zero_or ⟨by rw [hb], hon, hfa, rfl⟩ rfl
  | overflows hon hfa hb hfull =>
    exact .fatal (.frameFull hb hfa hfull) ⟨hon.2, rfl⟩ (fatalEntry_begun .frameOverflow s.wordTaken)

/-- A step without a word changes nothing, and every other step signals as its transaction does. -/
theorem StepEffect.signals {s t : State} (he : StepEffect s t) :
    (s.input = [] ∧ t = s) ∨ ∃ i, s.Next i ∧ Signals i s t := by
  cases he with
  | idles hin => exact .inl ⟨hin, rfl⟩
  | @captures r v hnext =>
    have hevt : (s.started.writeCapture r v).dispEvt = 0 := State.writeCapture_dispEvt ..
    have hphase : (s.started.writeCapture r v).phase = s.phase := State.writeCapture_phase ..
    exact .inr ⟨_, hnext, .of_phase_eq hevt hphase fun hrej => by cases hrej.1⟩
  | ignoresCapture hnext => exact .inr ⟨_, hnext, .of_phase_eq rfl rfl fun hrej => by cases hrej.1⟩
  | receives hnext _ hrx => exact .inr ⟨_, hnext, hrx.signals⟩
  | ticks hnext _ htick => exact .inr ⟨_, hnext, htick.signals⟩
  | resets hnext => exact .inr ⟨_, hnext, .of_unmarked_phase (ph := .searching) rfl rfl (by decide) (by simp)⟩

/-- Settles O38: a step that enters HALTED signals FATAL, so it has one of the two causes and the state it ends in. -/
theorem fatalEntryIsPrecise : Obligations.FatalEntryIsPrecise := by
  intro s t h hrun hhalted
  obtain ⟨-, rfl⟩ | ⟨i, hnext, hsig⟩ := (stepEffect_of_step h).signals
  · exact absurd hhalted hrun
  cases hsig with
  | nothing _ _ hhalt => exact absurd ⟨hrun, hhalted⟩ hhalt
  | payload _ _ hent => exact absurd ⟨hrun, hhalted⟩ (not_enters_of_ne hent.2 (by decide))
  | reject _ _ hphase => exact absurd ⟨hrun, hhalted⟩ (not_enters_of_eq hphase)
  | fatal hcause _ ht =>
    subst ht
    cases hcause with
    | logFull hfull => exact .inl ⟨hnext, hfull, rfl⟩
    | @frameFull b hb hfa hfull => exact .inr ⟨b, hnext, hb, hfa, hfull, rfl⟩

/-- The head of the stream is one transaction. -/
theorem State.Next.unique {s : State} {i j : Instr} (hi : s.Next i) (hj : s.Next j) : i = j := by
  obtain ⟨w, rest, hin, hw⟩ := hi
  obtain ⟨w', rest', hin', hw'⟩ := hj
  cases hin.symm.trans hin'
  exact Except.ok.inj (hw.symm.trans hw')

/-- A step whose word is `i` signals as `i` does. -/
theorem signals_of_step {s t : State} {i : Instr} (hnext : s.Next i) (h : step s = .next t) : Signals i s t := by
  obtain ⟨hin, -⟩ | ⟨j, hj, hsig⟩ := (stepEffect_of_step h).signals
  · obtain ⟨w, rest, hcons, -⟩ := hnext
    cases hin.symm.trans hcons
  · exact hnext.unique hj ▸ hsig

/-- Settles O48: each strobe comes with its own event, and no two of the three events are of one transaction. -/
theorem strobesMarkTheirTransaction : Obligations.StrobesMarkTheirTransaction := by
  intro s t i hnext h
  suffices (t.dispEvt = 0b001 ↔ i = .tick ∧ Enters .displaying s t) ∧
      (t.dispEvt = 0b100 ↔ i ≠ .rst ∧ Enters .halted s t) ∧ (t.dispEvt = 0b010 ↔ Rejects i s t) ∧
      (t.dispEvt = 0b000 ∨ t.dispEvt = 0b001 ∨ t.dispEvt = 0b010 ∨ t.dispEvt = 0b100) from this
  cases signals_of_step hnext h with
  | nothing hevt hdisplay hhalt hrej => simp [hevt, hdisplay, hhalt, hrej]
  | payload hevt htick hent =>
    have hhalt : ¬Enters .halted s t := not_enters_of_ne hent.2 (by decide)
    have hrej : ¬Rejects i s t := fun hrej => by cases htick.symm.trans hrej.1
    simp [hevt, htick, hent, hhalt, htick ▸ hrej]
  | reject hevt hrej hphase => simp [hevt, hrej, not_enters_of_eq hphase]
  | @fatal c hcause hent ht =>
    have hevt : t.dispEvt = 0b100 := by rw [ht]; rfl
    have hfa : t.faState = s.faState := by rw [ht]; rfl
    have hdisplay : ¬Enters .displaying s t := not_enters_of_ne hent.2 (by decide)
    have hi : i ≠ .rst := by rintro rfl; cases hcause
    have hrej : ¬Rejects i s t := by
      rintro ⟨-, -, hcol, hidle⟩
      exact absurd (hcol.symm.trans (hfa.symm.trans hidle)) (by decide)
    simp [hevt, hent, hdisplay, hi, hrej]

end Sys2Proof.Machine
end

section
/-! PROOF. How a run goes on and how it ends (70_reset_and_hazards.md R271, R272): any number of TICKs completes, and
from DISPLAYING and HALTED nothing but RST changes the outcome of the run. -/

namespace Sys2Proof.Machine

open Sys2Proof

/-! ### Runs of TICKs complete (70_reset_and_hazards.md R271) -/

theorem tickTimes_completes {s : State} (n : Nat) (h : s.Inv) : ∃ t, tickTimes n s = .next t := by
  induction n with
  | zero => exact ⟨s, rfl⟩
  | succ n ih =>
    obtain ⟨u, hrun⟩ := ih
    obtain ⟨t, htick⟩ := exec_tick_completes (inv_of_tickTimes h hrun)
    exact ⟨t, by rw [tickTimes_add_of_next 1 hrun, tickTimes_one, htick]⟩

/-- Settles O55: each TICK completes under the invariant and keeps it, so the next one completes too. -/
theorem ticksComplete : Obligations.TicksComplete := by
  refine fun s h => ⟨?_, fun n hn => ?_⟩
  · obtain ⟨t, htick⟩ := exec_tick_completes h
    exact ⟨t, htick, inv_of_exec_tick h htick⟩
  · obtain ⟨t, hrun⟩ := tickTimes_completes n h
    exact ⟨t, (exec_ticks_eq_tickTimes s hn).trans hrun, inv_of_tickTimes h hrun⟩

/-! ### Ended runs (70_reset_and_hazards.md R272) -/

/-- The outcome of the run is the same in `t` as in `s`: phase, fatal code, powers, cursor and payload. -/
def SameOutcome (s t : State) : Prop :=
  t.phase = s.phase ∧ t.fatalCode = s.fatalCode ∧ t.pwrL = s.pwrL ∧ t.pwrR = s.pwrR ∧ t.cursor = s.cursor ∧
    ∀ k, t.payloadOut k = s.payloadOut k

theorem SameOutcome.refl (s : State) : SameOutcome s s := ⟨rfl, rfl, rfl, rfl, rfl, fun _ => rfl⟩

theorem sameOutcome_heartbeat (s : State) (on : Bool) (n : Nat) : SameOutcome s { s with hb := on, hbCnt := n } :=
  ⟨rfl, rfl, rfl, rfl, rfl, fun _ => rfl⟩

theorem sameOutcome_started (s : State) : SameOutcome s s.started := ⟨rfl, rfl, rfl, rfl, rfl, fun _ => rfl⟩

/-- The producers are off once a run has ended: in DISPLAYING since the arrival, in HALTED by the phase. -/
theorem State.Inv.not_enabled_of_ended {s : State} (h : s.Inv) (hend : s.Ended) : ¬s.Enabled := by
  obtain ⟨-, -, ⟨-, -, -, hoff, -, -⟩, -⟩ := h
  rintro ⟨hon, hrun⟩
  obtain ⟨hdisplay, -⟩ | ⟨hhalt, -⟩ := hend
  · obtain ⟨hevents, -⟩ := hoff (.inr (.inr hdisplay))
    exact absurd (hon.symm.trans hevents) (by decide)
  · exact hrun hhalt

/-- With the producers off an RXB does nothing. -/
theorem RxEffect.eq_of_not_enabled {b : Byte} {s t : State} (he : RxEffect b s t) (hoff : ¬s.Enabled) : t = s := by
  cases he with
  | disabled => rfl
  | starts hon | ignoresIdle hon | accepts hon | rejects hon | collects hon | overflows hon | ignoresAccepted hon =>
    exact absurd hon hoff

/-- In DISPLAYING a TICK writes the heartbeat alone: every other effect has its home in another phase. -/
theorem TickEffect.eq_heartbeat_of_displaying {s t : State} (he : TickEffect s t)
    (h : s.phase = Phase.displaying.code) : ∃ on n, t = { s with hb := on, hbCnt := n } := by
  have elsewhere : ∀ {ph : Phase}, s.phase = ph.code → ph = .displaying :=
    fun hph => Phase.code_inj.1 (hph.symm.trans h)
  cases he with
  | toggles | counts => exact ⟨_, _, rfl⟩
  | records hr | overflows hr => obtain hph | hph := hr.phase_eq <;> cases elsewhere hph
  | dwells hph hat | dwellEnds hph hat | ramps hph hat =>
    cases elsewhere hat.1
    exact absurd hph (by decide)
  | spins hat | checkMatches hat | arrives hat | loses hat | rampEndsTracking hat | rampEndsArrived hat
  | rampEndsReturning hat | stops hat | replays hat | rests hat => cases elsewhere hat.1

/-- A TICK of an ended run keeps the outcome. -/
theorem TickEffect.sameOutcome_of_ended {s t : State} (he : TickEffect s t) (hend : s.Ended) : SameOutcome s t := by
  obtain ⟨hdisplay, -⟩ | ⟨hhalt, -⟩ := hend
  · obtain ⟨on, n, rfl⟩ := he.eq_heartbeat_of_displaying hdisplay
    exact sameOutcome_heartbeat s on n
  · cases he.eq_of_halted hhalt
    exact .refl s

/-- A step of an ended run is an RST, or keeps the outcome. -/
theorem StepEffect.sameOutcome_of_ended {s t : State} (he : StepEffect s t) (h : s.Inv) (hend : s.Ended) :
    s.Next .rst ∨ SameOutcome s t := by
  have hoff := h.not_enabled_of_ended hend
  cases he with
  | idles => exact .inr (.refl s)
  | captures _ _ hon => exact absurd hon hoff
  | ignoresCapture => exact .inr (sameOutcome_started s)
  | receives _ _ hrx =>
    cases hrx.eq_of_not_enabled hoff
    exact .inr (sameOutcome_started s)
  | ticks _ _ htick => exact .inr (htick.sameOutcome_of_ended hend)
  | resets hnext => exact .inl hnext

/-- Settles O57: every effect but RST keeps the outcome, and whether a run has ended is read off its phase and code. -/
theorem endedRunsStayEnded : Obligations.EndedRunsStayEnded := by
  intro s t h hend hstep
  obtain hrst | hsame := (stepEffect_of_step hstep).sameOutcome_of_ended h hend
  · exact .inl hrst
  · obtain ⟨hphase, hcode, -⟩ := id hsame
    exact .inr ⟨by rwa [State.Ended, State.MissionComplete, State.Halted, hphase, hcode], hsame⟩

end Sys2Proof.Machine
end

section
/-! PROOF. The reserved words and codes (30_encoding.md R77, R78, R81, R85): which words a step refuses, in which states
a transaction faults, and that no step leads to such a state. -/

namespace Sys2Proof

open Sys2Proof.Machine

/-! ### The words that do not decode (30_encoding.md R77) -/

/-- The word of a transaction has none of the reserved bits. -/
theorem not_reservedBits_of_isWordOf {i : Instr} {w : Word} (h : IsWordOf i w) : ¬ReservedBits w := by
  cases h with
  | cap r v =>
    rw [capWord, reservedBits_append_iff]
    cases r <;> simp [Receiver.bit]
  | rxb b =>
    rw [rxbWord, reservedBits_append_iff]
    simp
  | tick | rst => decide

/-- The refusal names the word. -/
theorem eq_reservedWord_of_decodeWord_error {w : Word} {e : DecodeError} (h : decodeWord w = .error e) :
    e = .reservedWord w := by
  unfold decodeWord at h
  split_ifs at h
  cases h
  rfl

theorem decodeWord_eq_error_iff (w : Word) : decodeWord w = .error (.reservedWord w) ↔ ReservedBits w := by
  refine ⟨reservedBits_of_decodeWord_error, fun hbits => ?_⟩
  cases h : decodeWord w with
  | ok i => exact absurd hbits (not_reservedBits_of_isWordOf (decodeWord_eq_ok_iff.1 h))
  | error e => rw [eq_reservedWord_of_decodeWord_error h]

/-- Settles O3: the words of a transaction by what they are put together from, the others by their reserved bits. -/
theorem sampleWordsDecode : Obligations.SampleWordsDecode :=
  ⟨decodeWord_capWord .first 195, decodeWord_capWord .second 195, decodeWord_capWord .second 255,
    decodeWord_rxbWord 0x02, decodeWord_rxbWord 0xFF, decodeWord_eq_ok_iff.2 .tick, decodeWord_eq_ok_iff.2 .rst,
    (decodeWord_eq_error_iff _).2 (by decide), (decodeWord_eq_error_iff _).2 (by decide),
    (decodeWord_eq_error_iff _).2 (by decide), (decodeWord_eq_error_iff _).2 (by decide)⟩

end Sys2Proof

namespace Sys2Proof.Machine

open Sys2Proof

/-! ### A transaction is never refused -/

/-- The outcome is no refusal. -/
def NotRefused (o : Out) : Prop := ∀ r, o ≠ .refused r

theorem notRefused_next (t : State) : NotRefused (.next t) := fun _ h => by cases h

theorem notRefused_fault (f : Fault) : NotRefused (.fault f) := fun _ h => by cases h

theorem notRefused_transaction {body : State → Out} {s : State} (h : NotRefused (body s.begun)) :
    NotRefused (transaction body s) := by
  unfold transaction
  split
  · exact notRefused_fault _
  · exact h

theorem notRefused_captureBody (r : Receiver) (v : Byte) (s : State) : NotRefused (captureBody r v s) := by
  obtain ⟨-, heq⟩ | ⟨-, heq⟩ := captureBody_cases r v s
  all_goals exact heq ▸ notRefused_next _

theorem notRefused_receiveBody (b : Byte) (s : State) : NotRefused (receiveBody b s) := by
  unfold receiveBody
  split
  · split
    · exact notRefused_next _
    · exact notRefused_fault _
  · exact notRefused_next _

theorem notRefused_dwellBody (done : State → State) (s : State) : NotRefused (dwellBody done s) := by
  unfold dwellBody
  split_ifs
  · exact notRefused_fault _
  · exact notRefused_next _
  · exact notRefused_next _

theorem notRefused_returnStepBody (s : State) : NotRefused (returnStepBody s) := by
  unfold returnStepBody
  split
  · exact notRefused_next _
  · split
    · exact notRefused_fault _
    · exact notRefused_next _

theorem notRefused_displayBody (s : State) : NotRefused (displayBody s) := by
  unfold displayBody
  split_ifs
  · exact notRefused_fault _
  · exact notRefused_next _
  · exact notRefused_next _

theorem notRefused_tickBody (s : State) : NotRefused (tickBody s) := by
  unfold tickBody
  split
  · next m _ =>
    cases m with
    | searchDwell | searchCheck | dwellTickTracking | dwellTickReturning => exact notRefused_dwellBody _ s
    | returnStep => exact notRefused_returnStepBody s
    | displayTick => exact notRefused_displayBody s
    | searchSpin | trackDecide | rampTickTracking | rampTickArrived | rampTickReturning | haltTick =>
      exact notRefused_next _
  · exact notRefused_fault _

/-- The transaction of a word completes or faults. -/
theorem notRefused_exec {i : Instr} {w : Word} (h : IsWordOf i w) (s : State) : NotRefused (exec i s) := by
  cases h with
  | cap r v => exact notRefused_transaction (notRefused_captureBody r v _)
  | rxb b => exact notRefused_transaction (notRefused_receiveBody b _)
  | tick => exact notRefused_transaction (notRefused_tickBody _)
  | rst => exact notRefused_next _

/-! ### The transactions of a clock edge (30_encoding.md R79) -/

theorem mem_ifValid {mk : Byte → Instr} {o : Option Byte} {i : Instr} (h : i ∈ ifValid mk o) : ∃ b, i = mk b := by
  cases o with
  | none => cases h
  | some b => exact ⟨b, List.mem_singleton.1 h⟩

/-- A clock edge produces transactions that have a word. -/
theorem exists_isWordOf_of_mem_transactions {e : Edge} {i : Instr} (h : i ∈ e.transactions) : ∃ w, IsWordOf i w := by
  unfold Edge.transactions at h
  split at h
  · cases List.mem_singleton.1 h
    exact ⟨_, .rst⟩
  · simp only [List.mem_append, List.mem_ite_nil_right, List.mem_singleton] at h
    obtain ((h | h) | h) | ⟨-, rfl⟩ := h
    · obtain ⟨b, rfl⟩ := mem_ifValid h
      exact ⟨_, .cap .first b⟩
    · obtain ⟨b, rfl⟩ := mem_ifValid h
      exact ⟨_, .cap .second b⟩
    · obtain ⟨b, rfl⟩ := mem_ifValid h
      exact ⟨_, .rxb b⟩
    · exact ⟨_, .tick⟩

/-- Settles O4: the words that do not decode are those with a reserved bit, and a word that decodes is not refused. -/
theorem reservedWordsAreRefused : Obligations.ReservedWordsAreRefused := by
  refine ⟨fun s w rest hin => ⟨fun hstep => ?_, fun hbits => ?_⟩, fun e i hi => ?_⟩
  · by_contra hbits
    obtain ⟨i, hi⟩ := exists_isWordOf_of_not_reservedBits hbits
    rw [step_of_decodeWord_ok hin (decodeWord_eq_ok_iff.2 hi)] at hstep
    exact notRefused_exec hi _ _ hstep
  · exact step_of_decodeWord_error hin ((decodeWord_eq_error_iff w).2 hbits)
  · obtain ⟨w, hw⟩ := exists_isWordOf_of_mem_transactions hi
    exact ⟨w, encodeOfDecodedWord w i (decodeWord_eq_ok_iff.2 hw), not_reservedBits_of_isWordOf hw⟩

/-! ### No step brings in a reserved code -/

/-- A move to a pair of phase and step that is selected, which leaves the assembler and the fatal code, brings in no
reserved code. -/
theorem State.CodesOk.of_at {s t : State} (h : s.CodesOk) {ph : Phase} {sb : Sub} (hat : t.At ph sb)
    (hsel : tickSel (ph.code ++ sb.code) false ≠ none) (hprim : decodePrim t.prim ≠ none)
    (hfa : t.faState = s.faState) (hfatal : t.fatalCode = s.fatalCode) : t.CodesOk := by
  obtain ⟨-, -, hrx, hne⟩ := s.codesOk_iff.1 h
  exact codesOk_of_at hat hsel hprim (hfa ▸ hrx) (hfatal ▸ hne)

theorem codesOk_issueAndHold (p : RomPrim) {s : State} {ph : Phase} (hph : ph.Dwells) (hphase : s.phase = ph.code)
    (h : s.CodesOk) : (issueAndHold p s).CodesOk := by
  have hsel : tickSel (ph.code ++ Sub.dwell.code) false ≠ none := by
    obtain rfl | rfl | rfl := hph <;> decide
  exact h.of_at ⟨hphase, rfl⟩ hsel (by simp [issueAndHold, decodePrim_code]) rfl rfl

theorem codesOk_startStop {s : State} {ph : Phase} (hph : ph.Ramps) (hphase : s.phase = ph.code) (h : s.CodesOk) :
    (startStop s).CodesOk := by
  have hsel : tickSel (ph.code ++ Sub.ramp.code) false ≠ none := by
    obtain rfl | rfl | rfl := hph <;> decide
  exact h.of_at ⟨hphase, rfl⟩ hsel (by decide : decodePrim primStop ≠ none) rfl rfl

/-- Every phase but ARRIVED has a decision (30_encoding.md R76). -/
theorem codesOk_decide {s t : State} {ph : Phase} (hph : ph ≠ .arrived) (hat : t.At ph .decide) (h : s.CodesOk)
    (hprim : t.prim = s.prim) (hfa : t.faState = s.faState) (hfatal : t.fatalCode = s.fatalCode) : t.CodesOk := by
  have hsel : tickSel (ph.code ++ Sub.decide.code) false ≠ none := by
    cases ph <;> simp at hph <;> decide
  obtain ⟨-, hdec, -⟩ := s.codesOk_iff.1 h
  exact h.of_at hat hsel (hprim ▸ hdec) hfa hfatal

/-- No effect of a TICK brings in a reserved code. -/
theorem TickEffect.codesOk {s t : State} (he : TickEffect s t) (h : s.CodesOk) : t.CodesOk := by
  cases he with
  | spins hat => exact codesOk_issueAndHold _ (.inl rfl) hat.1 h
  | @records tag p hr =>
    have hrec : (s.recorded tag).CodesOk := h
    obtain hphase | hphase := hr.phase_eq
    · exact codesOk_issueAndHold p (.inl rfl) hphase hrec
    · exact codesOk_issueAndHold p (.inr (.inl rfl)) hphase hrec
  | overflows => exact codesOk_fatalEntry _ h
  | checkMatches =>
    exact h.of_at (ph := .tracking) (sb := .ramp) ⟨rfl, rfl⟩ (by decide) (by decide : decodePrim primStop ≠ none) rfl rfl
  | dwellEnds hph hat =>
    exact codesOk_decide (by obtain rfl | rfl | rfl := hph <;> decide) ⟨hat.1, rfl⟩ h rfl rfl rfl
  | arrives =>
    exact h.of_at (ph := .arrived) (sb := .ramp) ⟨rfl, rfl⟩ (by decide) (by decide : decodePrim primStop ≠ none) rfl rfl
  | loses => exact codesOk_decide (ph := .searching) (by decide) ⟨rfl, rfl⟩ h rfl rfl rfl
  | rampEndsTracking => exact codesOk_decide (ph := .tracking) (by decide) ⟨rfl, rfl⟩ h rfl rfl rfl
  | rampEndsArrived => exact codesOk_decide (ph := .returning) (by decide) ⟨rfl, rfl⟩ h rfl rfl rfl
  | rampEndsReturning => exact codesOk_decide (ph := .displaying) (by decide) ⟨rfl, rfl⟩ h rfl rfl rfl
  | stops hat => exact codesOk_startStop (.inr (.inr rfl)) hat.1 h
  | @replays tag hat =>
    have hissued : (issueAndHold (inv tag) s).CodesOk := codesOk_issueAndHold _ (.inr (.inr rfl)) hat.1 h
    exact hissued
  | dwells | ramps | toggles | counts | rests => exact h

theorem codesOk_resetState (s : State) : (resetState s).CodesOk :=
  codesOk_of_at (ph := .searching) (sb := .decide) ⟨rfl, rfl⟩ (by decide) (by decide : decodePrim primStop ≠ none)
    (by decide : rxSel FaState.idle.code 0 false ≠ none) (by decide : (0 : BitVec 2) ≠ 3)

/-- A step that completes ends in a state without reserved codes, whatever state it starts from. -/
theorem codesOk_of_step {s t : State} (h : step s = .next t) : t.CodesOk := by
  cases stepEffect_of_step h with
  | idles _ hok => exact hok
  | captures _ hok => exact (State.writeCapture_reservedFault ..).trans hok
  | ignoresCapture _ hok => exact hok
  | receives _ hok he => exact he.codesOk hok
  | ticks _ hok he => exact he.codesOk hok
  | resets => exact codesOk_resetState _

/-! ### The reserved codes as the spec lists them -/

theorem decodePrim_eq_none_iff (c : BitVec 4) : decodePrim c = none ↔ 9 ≤ c.toNat ∧ c.toNat ≤ 14 := by
  revert c
  decide

theorem rxSel_eq_none_iff (fa : BitVec 2) : rxSel fa 0 false = none ↔ fa = 0b11 := by
  revert fa
  decide

/-- The pairs of phase and step of R78. -/
theorem tickSel_eq_none_iff (ph : BitVec 3) (sb : BitVec 2) : tickSel (ph ++ sb) false = none ↔
    (ph = 0b000 ∧ sb = 0b10) ∨ (ph = 0b010 ∧ (sb = 0b00 ∨ sb = 0b01)) ∨
      (ph = 0b100 ∧ (sb = 0b01 ∨ sb = 0b10)) ∨ (ph = 0b101 ∧ (sb = 0b01 ∨ sb = 0b10)) ∨
      sb = 0b11 ∨ ph = 0b110 ∨ ph = 0b111 := by
  revert ph sb
  decide

/-- A reserved code stops CAP, RXB and TICK alike. -/
theorem exec_of_reservedFault {s : State} {f : Fault} (h : s.reservedFault = some f) (r : Receiver) (v b : Byte) :
    exec (.cap r v) s = .fault f ∧ exec (.rxb b) s = .fault f ∧ exec .tick s = .fault f :=
  ⟨transaction_of_reserved h, transaction_of_reserved h, transaction_of_reserved h⟩

/-- Settles O5: a reserved code is the fault of every transaction but RST, and the state after a step holds none. -/
theorem reservedCodesFaultAndAreNeverDriven : Obligations.ReservedCodesFaultAndAreNeverDriven := by
  refine ⟨⟨rfl, rfl, rfl⟩, fun s hcode r v b => ?_, fun s t hstep => ?_⟩
  · have hreserved : s.reservedFault ≠ none := by
      intro hok
      obtain ⟨-, hprim, hfa, hfatal⟩ := s.codesOk_iff.1 hok
      obtain hc | hc | hc := hcode
      · exact hprim ((decodePrim_eq_none_iff _).2 hc)
      · exact hfa ((rxSel_eq_none_iff _).2 hc)
      · exact hfatal hc
    obtain ⟨f, hf⟩ := Option.ne_none_iff_exists'.1 hreserved
    obtain ⟨hcap, hrxb, htick⟩ := exec_of_reservedFault hf r v b
    exact ⟨⟨f, hcap⟩, ⟨f, hrxb⟩, ⟨f, htick⟩⟩
  · obtain ⟨-, hprim, hfa, hfatal⟩ := t.codesOk_iff.1 (codesOk_of_step hstep)
    exact ⟨fun hc => hprim ((decodePrim_eq_none_iff _).2 hc), fun hc => hfa ((rxSel_eq_none_iff _).2 hc), hfatal⟩

/-- A reserved pair of phase and step is reported before any other reserved code. -/
theorem State.reservedFault_eq_reservedState_iff (s : State) :
    s.reservedFault = some .reservedState ↔ tickSel s.stateVector false = none := by
  unfold State.reservedFault
  split_ifs with hsel <;> simp [hsel]

/-- A CAP faults with the reserved code that the state holds, and with nothing else. -/
theorem reservedFault_of_exec_cap {s : State} {r : Receiver} {v : Byte} {f : Fault}
    (h : exec (.cap r v) s = .fault f) : s.reservedFault = some f := by
  cases hres : s.reservedFault with
  | none =>
    obtain ⟨t, ht⟩ := exec_cap_completes r v hres
    cases ht.symm.trans h
  | some g =>
    have hcap : exec (.cap r v) s = .fault g := transaction_of_reserved hres
    cases hcap.symm.trans h
    rfl

/-- Settles O6: the fault is that of the reserved pairs, which are those R78 lists, and a step leads to none of
them. -/
theorem reservedStatesFault : Obligations.ReservedStatesFault := by
  refine ⟨fun s => ?_, fun s t hstep => ?_⟩
  · refine (tickSel_eq_none_iff s.phase s.sub).symm.trans ((s.reservedFault_eq_reservedState_iff).symm.trans ?_)
    exact ⟨exec_of_reservedFault, fun h => reservedFault_of_exec_cap (h .first 0 0).1⟩
  · obtain ⟨hsel, -⟩ := t.codesOk_iff.1 (codesOk_of_step hstep)
    exact Option.ne_none_iff_exists'.1 hsel

end Sys2Proof.Machine
end

section
/-! PROOF. A row of format TICKSEL or RXBSEL run as a transaction (30_encoding.md R76, 44_frame.md R200; log entry 3). -/

namespace Sys2Proof.Machine

open Sys2Proof

/-- Settles O10: a row is the TICK or the RXB it stands for, so it does what they do in its state. -/
theorem rowsRunTheTransactionTheyStandFor : Obligations.RowsRunTheTransactionTheyStandFor := by
  intro s
  refine ⟨fun m => exec_microOp_eq_tick m s, fun op b => exec_rxOp_eq_rxb op b s, fun hok => ⟨?_, fun op b => ?_⟩⟩
  · intro m m' hsel
    rw [exec_microOp_eq_tick, exec_tick_of_tickSel hsel, transaction_of_codesOk hok]
    rfl
  · rw [exec_rxOp_eq_rxb]
    refine ⟨fun hoff => exec_rxb_of_disabled _ hok (s.producersEnabled_eq_false_iff.2 hoff),
      fun op' hon hsel => exec_rxb_of_rxSel hok (s.producersEnabled_iff.2 hon) hsel, ?_⟩
    obtain ⟨t, ht, -⟩ := exec_rxb_completes (rowByte op b) hok
    exact ⟨t, ht⟩

end Sys2Proof.Machine
end

section
/-! PROOF. The verdict of the end marker (44_frame.md R203, R207 to R212) and the law of single-bit errors (R217). -/

namespace Sys2Proof.Machine

open Sys2Proof

/-! ### Hex characters (44_frame.md R208) -/

theorem hexVal_of_hexDigit {c : Byte} (h : HexDigit c) :
    ∃ x, hexVal c = some x ∧ x.toNat = hexDigitValue c := by
  have hval : (BitVec.ofNat 4 (hexDigitValue c)).toNat = hexDigitValue c := Nat.mod_eq_of_lt (hexDigitValue_lt h)
  exact ⟨_, hexVal_eq_some_iff.2 ⟨h, hval⟩, hval⟩

theorem isHex_iff (c : Byte) : isHex c = true ↔ HexDigit c := by
  rw [isHex, Option.isSome_iff_exists]
  constructor
  · rintro ⟨x, hx⟩
    exact (hexVal_eq_some_iff.1 hx).1
  · intro h
    obtain ⟨x, hx, -⟩ := hexVal_of_hexDigit h
    exact ⟨x, hx⟩

/-- Settles O19: HEXVAL is defined on the hex digits alone, and is their value. -/
theorem hexValueTable : Obligations.HexValueTable := by
  intro c
  refine ⟨fun hdigit => ?_, fun hletter => ?_, fun hno => ?_⟩
  · have hval : hexDigitValue c = c.toNat - 0x30 := if_pos hdigit.2
    exact ⟨(isHex_iff c).2 (.inl hdigit), hval ▸ hexVal_of_hexDigit (.inl hdigit)⟩
  · have hval : hexDigitValue c = c.toNat - 0x37 := if_neg (by omega)
    exact ⟨(isHex_iff c).2 (.inr hletter), hval ▸ hexVal_of_hexDigit (.inr hletter)⟩
  · have hfalse : isHex c = false := by rwa [← Bool.not_eq_true, isHex_iff]
    exact ⟨hfalse, by simpa [isHex] using hfalse⟩

/-- Two hex digits of the same value are the same character. -/
theorem hexDigitValue_inj {a b : Byte} (ha : HexDigit a) (hb : HexDigit b) (h : hexDigitValue a = hexDigitValue b) :
    a = b := by
  apply BitVec.eq_of_toNat_eq
  unfold hexDigitValue at h
  split_ifs at h <;> omega

theorem pairValue_inj {a b c d : Byte} (ha : HexDigit a) (hb : HexDigit b) (hc : HexDigit c) (hd : HexDigit d)
    (h : pairValue a b = pairValue c d) : a = c ∧ b = d := by
  have := hexDigitValue_lt hb
  have := hexDigitValue_lt hd
  unfold pairValue at h
  exact ⟨hexDigitValue_inj ha hc (by omega), hexDigitValue_inj hb hd (by omega)⟩

/-- The marks of a frame are no hex digits. -/
theorem HexDigit.ne_marker {c : Byte} (h : HexDigit c) : c ≠ stx ∧ c ≠ etx := by
  constructor <;> rintro rfl <;> simp [HexDigit, stx, etx] at h

/-! ### The verdict of the end marker -/

theorem exec_rxb_etx_of_good {s : State} (hok : s.CodesOk) (hon : s.Enabled)
    (hfa : s.faState = FaState.collecting.code) (hgood : s.flen = 12 ∧ GoodFrame s.mem.fbufRead) :
    exec (.rxb etx) s = .next { s with dispEvt := 0, faState := 0b10, frameValid := true } := by
  rw [(receives_endEvaluate hok hon hfa).1]
  exact congrArg _ (if_pos ((State.frameGood_iff s).2 hgood))

theorem exec_rxb_etx_of_bad {s : State} (hok : s.CodesOk) (hon : s.Enabled)
    (hfa : s.faState = FaState.collecting.code) (hbad : ¬(s.flen = 12 ∧ GoodFrame s.mem.fbufRead)) :
    exec (.rxb etx) s = .next { s with dispEvt := 0b010, faState := 0b00, flen := 0 } := by
  have hreject : reject s.begun = { s with dispEvt := 0b010, faState := 0b00, flen := 0 } := by
    simp [reject, emit, State.begun, strobeReject, FaState.code]
  rw [(receives_endEvaluate hok hon hfa).1, ← hreject]
  exact congrArg _ (if_neg fun hg => hbad ((State.frameGood_iff s).1 hg))

/-- Settles O18: the row is the RXB of the end marker, which accepts a good frame and rejects every other. -/
theorem evaluateFollowsTheChecksum : Obligations.EvaluateFollowsTheChecksum := by
  intro s hok hon hfa
  have hrow : exec .rxEndEvaluate s = exec (.rxb etx) s := exec_rxOp_eq_rxb .endEvaluate etx s
  rw [hrow]
  exact ⟨exec_rxb_etx_of_good hok hon hfa, exec_rxb_etx_of_bad hok hon hfa, rfl⟩

/-! ### Two valid frames differ in more than one character -/

/-- Of six numbers of which the last is the XOR of the others, five determine the sixth. -/
theorem eq_of_xor_eq {p q : Nat → Nat} {j : Nat} (hj : j < 6) (h : ∀ i, i ≠ j → p i = q i)
    (hp : p 0 ^^^ p 1 ^^^ p 2 ^^^ p 3 ^^^ p 4 = p 5) (hq : q 0 ^^^ q 1 ^^^ q 2 ^^^ q 3 ^^^ q 4 = q 5) : p j = q j := by
  obtain rfl | hlt : j = 5 ∨ j < 5 := by omega
  · rw [← hp, ← hq]
    simp [h]
  · interval_cases j <;> simpa [h, ← hq] using hp

/-- The pair of the character that differs has the same value in both frames, so the character is the same. -/
theorem GoodFrame.eq_of_agree_off {f g : Nat → Byte} (hf : GoodFrame f) (hg : GoodFrame g) {k : Nat} (hk : k < 12)
    (h : ∀ i, i ≠ k → f i = g i) : f k = g k := by
  obtain ⟨hfHex, hfSum⟩ := hf
  obtain ⟨hgHex, hgSum⟩ := hg
  have hpair : pairValue (f (2 * (k / 2))) (f (2 * (k / 2) + 1)) = pairValue (g (2 * (k / 2))) (g (2 * (k / 2) + 1)) :=
    eq_of_xor_eq (p := fun j => pairValue (f (2 * j)) (f (2 * j + 1)))
      (q := fun j => pairValue (g (2 * j)) (g (2 * j + 1))) (by omega)
      (fun i hi => by rw [h (2 * i) (by omega), h (2 * i + 1) (by omega)]) hfSum hgSum
  obtain ⟨heven, hodd⟩ := pairValue_inj (hfHex _ (by omega)) (hfHex _ (by omega)) (hgHex _ (by omega))
    (hgHex _ (by omega)) hpair
  obtain hk2 | hk2 : k = 2 * (k / 2) ∨ k = 2 * (k / 2) + 1 := by omega
  · rwa [← hk2] at heven
  · rwa [← hk2] at hodd

/-- A valid frame with one character changed is not valid. -/
theorem not_goodFrame_set {bs : List Byte} {k : Nat} {b : Byte} (hgood : GoodFrame fun i => bs.getD i 0) (hk : k < 12)
    (hlen : bs.length = 12) (hb : b ≠ bs.getD k 0) : ¬GoodFrame fun i => (bs.set k b).getD i 0 := by
  intro hset
  have hsame : (bs.set k b).getD k 0 = bs.getD k 0 :=
    hset.eq_of_agree_off hgood hk fun i hi => by simp [List.getElem?_set_ne hi.symm]
  exact hb (by simpa [hlen, hk] using hsame)

/-- A flipped bit changes the byte. -/
theorem xor_bit_ne (b : Byte) {j : Nat} (hj : j < 8) : b ^^^ (1#8 <<< j) ≠ b := by
  have hbit : ∀ j < 8, (1#8 <<< j) ≠ 0#8 := by decide
  intro h
  rw [← BitVec.xor_zero (x := b), BitVec.xor_assoc, BitVec.xor_right_inj] at h
  exact hbit j hj (by simpa using h)

/-! ### Frames that are not received -/

theorem received_eq_runList (bs : List Byte) (s : State) : received bs s = runList execRxb bs s := by
  induction bs generalizing s with
  | nil => rfl
  | cons b bs ih =>
    rw [received, runList_cons, funext ih]
    rfl

/-- In IDLE, bytes that are no start marker do nothing. -/
theorem runList_execRxb_of_idle {bs : List Byte} {b : Byte} {s : State} (hok : s.CodesOk) (hon : s.Enabled)
    (hfa : s.faState = FaState.idle.code) (hbs : ∀ c ∈ b :: bs, c ≠ stx) :
    runList execRxb (b :: bs) s = .next s.begun := by
  obtain ⟨hb, hrest⟩ := List.forall_mem_cons.1 hbs
  have hrxb : exec (.rxb b) s = .next s.begun := (receives_ignoreIdle hok hon hfa hb).1
  rw [runList_execRxb_cons hrxb]
  cases bs with
  | nil => rfl
  | cons c bs => exact runList_execRxb_of_idle (s := s.begun) hok hon hfa hrest
termination_by bs.length

/-- From `s` to `t` a frame ended without an acceptance: the assembler is back in IDLE, and the verdict and the phase
are as they were. -/
def NotReceived (s t : State) : Prop :=
  t.faState = 0b00 ∧ t.flen = 0 ∧ t.frameValid = s.frameValid ∧ t.phase = s.phase

/-- A frame ended by the first end marker in it, which finds no valid frame, is rejected; the bytes after it are
ignored. -/
theorem received_of_bad {pre post : List Byte} {s : State} (hok : s.CodesOk) (hon : s.Enabled)
    (hfa : s.faState = FaState.idle.code) (hlen : pre.length ≤ s.cfg.fcap) (hpre : ∀ b ∈ pre, b ≠ etx)
    (hbad : ¬(pre.length = 12 ∧ GoodFrame fun k => pre.getD k 0)) (hpost : ∀ b ∈ post, b ≠ stx) :
    ∃ t, received (stx :: pre ++ etx :: post) s = .next t ∧ NotReceived s t := by
  obtain ⟨m, hrun, hm⟩ := exists_midFrame hok hon hfa hlen hpre
  have hverdict : ¬((midFrame s pre m).flen = 12 ∧ GoodFrame (midFrame s pre m).mem.fbufRead) := by
    rintro ⟨hlen12, hgood⟩
    have hbytes : ∀ k, k < 12 → m.fbufRead k = pre.getD k 0 := fun k hk => hm.bytes k (hk.trans_eq hlen12.symm)
    exact hbad ⟨hlen12, (goodFrame_congr hbytes).1 hgood⟩
  have hreject := exec_rxb_etx_of_bad (codesOk_midFrame pre m hok) hon rfl hverdict
  have hsplit : stx :: pre ++ etx :: post = (stx :: pre ++ [etx]) ++ post := by simp
  rw [received_eq_runList, hsplit, runList_append, runList_execRxb_concat hrun, hreject, andThen_next]
  cases post with
  | nil => exact ⟨_, rfl, rfl, rfl, rfl, rfl⟩
  | cons b post =>
    have hidle := runList_execRxb_of_idle (s := { midFrame s pre m with dispEvt := 0b010, faState := 0b00, flen := 0 })
      (hok.of_faState .idle rfl rfl rfl rfl) hon rfl hpost
    exact ⟨_, hidle, rfl, rfl, rfl, rfl⟩

/-- A valid frame with one character changed is rejected: at its end marker, or at the changed character if that is
the end marker now (log entry 18). -/
theorem received_of_changed_character {bs : List Byte} {k : Nat} {c : Byte} {s : State} (hok : s.CodesOk)
    (hon : s.Enabled) (hfa : s.faState = FaState.idle.code) (hlen : bs.length = 12)
    (hgood : GoodFrame fun i => bs.getD i 0) (hmark : ∀ b ∈ bs, b ≠ stx ∧ b ≠ etx) (hk : k < 12)
    (hc : c ≠ bs.getD k 0) : ∃ t, received (stx :: bs.set k c ++ [etx]) s = .next t ∧ NotReceived s t := by
  have hfit := s.cfg.twelve_le_fcap
  by_cases hetx : c = etx
  · have hsplit : stx :: bs.set k c ++ [etx] = stx :: bs.take k ++ etx :: (bs.drop (k + 1) ++ [etx]) := by
      simp [List.set_eq_take_append_cons_drop, hlen, hk, hetx]
    rw [hsplit]
    refine received_of_bad hok hon hfa (by simp; omega) (fun b hb => (hmark b (List.mem_of_mem_take hb)).2)
      (fun hbad => ?_) fun b hb => ?_
    · obtain ⟨hlenPre, -⟩ := hbad
      rw [List.length_take] at hlenPre
      omega
    · obtain hb | hb := List.mem_append.1 hb
      · exact (hmark b (List.mem_of_mem_drop hb)).1
      · rw [List.mem_singleton.1 hb]
        decide
  · refine received_of_bad hok hon hfa (by simp; omega) (fun b hb => ?_)
      (fun hbad => not_goodFrame_set hgood hk hlen hc hbad.2) (by simp)
    obtain hb | rfl := List.mem_or_eq_of_mem_set hb
    · exact (hmark b hb).2
    · exact hetx

/-- After a whole frame of twelve bytes, a byte that is no end marker is the thirteenth: stored where the buffer is
larger than the frame, and else an overflow (44_frame.md R204, R205). -/
theorem received_thirteenth {bs : List Byte} {c : Byte} {s : State} (hok : s.CodesOk) (hon : s.Enabled)
    (hfa : s.faState = FaState.idle.code) (hlen : bs.length = 12) (hbs : ∀ b ∈ bs, b ≠ etx) (hc : c ≠ etx) :
    ∃ t, received (stx :: bs ++ [c]) s = .next t ∧ t.frameValid = s.frameValid ∧
      (12 < s.cfg.fcap → t.faState = 0b01 ∧ t.flen = 13 ∧ t.phase = s.phase) ∧
      (s.cfg.fcap = 12 → t.phase = Phase.halted.code ∧ t.fatalCode = 2) := by
  obtain ⟨m, hrun, -⟩ := exists_midFrame hok hon hfa (hlen.trans_le s.cfg.twelve_le_fcap) hbs
  rw [received_eq_runList, runList_execRxb_concat hrun]
  by_cases hroom : bs.length < s.cfg.fcap
  · exact ⟨_, exec_rxb_midFrame hok hon hc hroom, rfl, fun _ => ⟨rfl, by simp [midFrame, hlen], rfl⟩,
      fun hfull => by omega⟩
  · exact ⟨_, exec_rxb_of_overflow (codesOk_midFrame bs m hok) hon rfl hc hroom, rfl, fun hlt => by omega,
      fun _ => ⟨rfl, rfl⟩⟩

/-- Settles O20: two valid frames never differ in one character, so a flipped one makes the frame bad, or ends it too
early where it becomes the end marker; with a flipped start marker no frame begins, and a flipped end marker is one
more byte of the frame. -/
theorem singleBitErrorIsRejected : Obligations.SingleBitErrorIsRejected := by
  intro s bs j hok hon hfa hlen hgood hj
  have hmark : ∀ b ∈ bs, b ≠ stx ∧ b ≠ etx := by
    intro b hb
    obtain ⟨k, hk, rfl⟩ := List.mem_iff_getElem.1 hb
    have hhex : HexDigit (bs.getD k 0) := hgood.1 k (hlen ▸ hk)
    rw [List.getD_eq_getElem _ _ hk] at hhex
    exact hhex.ne_marker
  refine ⟨fun k hk => received_of_changed_character hok hon hfa hlen hgood hmark hk (xor_bit_ne _ hj), ?_,
    received_thirteenth hok hon hfa hlen (fun b hb => (hmark b hb).2) (xor_bit_ne etx hj)⟩
  rw [received_eq_runList, List.cons_append]
  refine runList_execRxb_of_idle hok hon hfa (List.forall_mem_cons.2 ⟨xor_bit_ne stx hj, fun b hb => ?_⟩)
  obtain hb | hb := List.mem_append.1 hb
  · exact (hmark b hb).1
  · rw [List.mem_singleton.1 hb]
    decide

end Sys2Proof.Machine
end

section
/-! PROOF. Reset (70_reset_and_hazards.md R260, R262) and the widths of the counters (00_scope.md R9). -/

namespace Sys2Proof.Machine

open Sys2Proof

/-! ### RST -/

/-- An edge with `rst` = 1 is RST alone: the strobes it clears first are cleared by RST too. -/
theorem clockEdge_of_rst {e : Edge} (s : State) (h : e.rst = true) : clockEdge e s = exec .rst s := by
  have hrst : e.transactions = [.rst] := by simp [Edge.transactions, h]
  have hclear : exec .rst { s with dispEvt := 0 } = exec .rst s := rfl
  rw [clockEdge, hrst, runStrobed_cons_of_quiet hclear rfl (runStrobed_nil _)]
  rfl

/-- RST of a block with an empty log and no word waiting is power-on. -/
theorem resetState_eq_powerOn {s : State} (hin : s.input = []) (hlog : s.mem.log = []) :
    resetState s = State.powerOn s.cfg := by
  simp [resetState, Memory.fbufClear, hin, hlog, State.powerOn]

/-- Settles O50: RST is `resetState` in every state, which writes the reset values and keeps the log. -/
theorem rstLoadsTheResetState : Obligations.RstLoadsTheResetState := by
  refine ⟨fun s => ⟨resetState s, rfl, ?_⟩, fun s e => clockEdge_of_rst s, fun s hin hlog => ?_⟩
  · exact ⟨⟨rfl, rfl⟩, by simp [primStop, FaState.code]⟩
  · exact congrArg Host.Outcome.next (resetState_eq_powerOn hin hlog)

/-! ### The widths of R9 -/

/-- `clog2 n` bits count to `n`. -/
theorem le_two_pow_clog2 (n : Nat) : n ≤ 2 ^ clog2 n := by
  unfold clog2
  split
  · next heq => exact heq.ge
  · exact Nat.lt_log2_self.le

/-- A counter of `clog2 (max + 1)` bits holds every value up to `max`. -/
theorem lt_two_pow_clog2_succ {n max : Nat} (h : n ≤ max) : n < 2 ^ clog2 (max + 1) :=
  (Nat.lt_succ_of_le h).trans_le (le_two_pow_clog2 _)

/-- Settles O58: the invariant bounds each counter by the value its width is made for. -/
theorem countersFitTheirWidths : Obligations.CountersFitTheirWidths := by
  rintro s ⟨-, ⟨hcur, hridx, hflen, -, hcnt, -, hhb, -⟩, -⟩
  exact ⟨lt_two_pow_clog2_succ hcur, lt_two_pow_clog2_succ (hridx.trans hcur), lt_two_pow_clog2_succ hcnt,
    lt_two_pow_clog2_succ hflen, lt_two_pow_clog2_succ hhb⟩

end Sys2Proof.Machine
end
